-- ==== Sys2Proof/Word.lean ====
section
/-! DEFINITION. The widths MPF moves: bytes on the wire, 16-bit and 32-bit register fields (`10_state.md`). -/

namespace Sys2Proof

/-- A byte of a frame or of a buffer (`00_scope.md` R9). -/
abbrev Byte := BitVec 8

/-- A 16-bit field: `PLEN`, `RXLEN`, `T_BYTE`, the CRC register. -/
abbrev Half := BitVec 16

/-- A 32-bit register; also the width `TW` of `ELAPSED` and `BUDGET` (`00_scope.md` R7). -/
abbrev Word := BitVec 32

end Sys2Proof
end

