-- ==== Sys2Proof/Config.lean ====
section
/-! DEFINITION. The configuration record of `00_scope.md` R7 and the free values the spec leaves open. -/

namespace Sys2Proof

/-- The parameter `OPC` (`30_encoding.md` R104): the byte value of each of the twelve wire instructions. -/
structure Opc where
  ping : Byte
  read : Byte
  write : Byte
  regWrite : Byte
  action : Byte
  factoryReset : Byte
  reboot : Byte
  syncRead : Byte
  syncWrite : Byte
  bulkRead : Byte
  bulkWrite : Byte
  statusResponse : Byte
  deriving DecidableEq, Repr

/-- The two readings of a P2 status frame (`30_encoding.md` R110, parameter `P2_STATUS_FORM`). -/
inductive StatusForm where
  | errInSlot
  | instrThenErr
  deriving DecidableEq, Repr, Inhabited

/-- The implementation parameters of `00_scope.md` R7. `TW` is fixed at 32 by the spec (the type `Word`); `TICK`, the
duration of a tick, is not represented because no rule depends on it. -/
structure Config where
  /-- largest P1 transmit frame, bytes -/
  txMax1 : Nat
  /-- largest P2 transmit frame after stuffing, bytes -/
  txMax2 : Nat
  /-- largest P1 receive frame and receive-buffer capacity, bytes -/
  rxMax1 : Nat
  /-- largest P2 receive frame and receive-buffer capacity, bytes -/
  rxMax2 : Nat
  /-- generator polynomial without the x^16 term -/
  crcPoly : Half
  /-- initial CRC register value -/
  crcInit : Half
  opc : Opc
  /-- where the error byte of a P2 status frame sits -/
  statusForm : StatusForm
  /-- fewest data bytes of a P1 ping status that exposes the model number (wrapper only, R279) -/
  pingMinParams1 : Nat
  /-- fewest data bytes of a P2 ping status that exposes the model number (wrapper only, R279) -/
  pingMinParams2 : Nat
  deriving DecidableEq, Repr

/-- The value of `P2_STATUS_FORM` in the configuration the machine is reset with. The spec leaves it OPEN without a
default (`92_eei_decisions.md` D15), so it has no value a proof could use. -/
opaque Config.openStatusForm : StatusForm

/-- The free value of a `TXP` or `RXP` byte not written since reset (`10_state.md` R50,
`93_implementation_defined.md` U4): any byte, a fresh one for every value of the counter `State.free`. -/
opaque Config.freeByte : Nat → Byte

/-- The free value of `tx_data` while `tx_valid` is 0 (`10_state.md` R41, `93_implementation_defined.md` U8). -/
opaque Config.freeTxData : Nat → Byte

/-- The default of `OPC` (`30_encoding.md` R104). -/
def Opc.default : Opc where
  ping := 0x01
  read := 0x02
  write := 0x03
  regWrite := 0x04
  action := 0x05
  factoryReset := 0x06
  reboot := 0x08
  syncRead := 0x82
  syncWrite := 0x83
  bulkRead := 0x92
  bulkWrite := 0x93
  statusResponse := 0x55

/-- The defaults of `00_scope.md` R7; `P2_STATUS_FORM` has none and stays open. -/
def Config.default : Config where
  txMax1 := 250
  txMax2 := 1024
  rxMax1 := 250
  rxMax2 := 1024
  crcPoly := 0x8005
  crcInit := 0x0000
  opc := Opc.default
  statusForm := Config.openStatusForm
  pingMinParams1 := 0
  pingMinParams2 := 3

end Sys2Proof
end

