-- ==== Sys2Proof/Machine/Bytes.lean ====
section
/-! DEFINITION. Byte order, slices and saturation: the small helpers of `00_scope.md` R9, R10 and `20_memory.md` R63, R67. -/

namespace Sys2Proof.Machine

/-- `lo8(v) = v mod 256` (`00_scope.md` R9). -/
def lo8 (v : Nat) : Byte := BitVec.ofNat 8 v

/-- `hi8(v) = (v div 256) mod 256` (`00_scope.md` R9). -/
def hi8 (v : Nat) : Byte := BitVec.ofNat 8 (v / 256)

/-- `sat_TW(v) = min(v, 2^32 - 1)` (`00_scope.md` R9). -/
def satTW (v : Nat) : Word := BitVec.ofNat 32 (min v (2 ^ 32 - 1))

/-- `l[i..j)` (`00_scope.md` R10). -/
def slice (i j : Nat) (l : List Byte) : List Byte := (l.take j).drop i

/-- `l[i]`, 0 beyond the end (never read there by a rule). -/
def byteAt (l : List Byte) (i : Nat) : Byte := l.getD i 0

/-- The little-endian natural number of a byte list: `sum over k of l[k] * 256^k` (`20_memory.md` R63). -/
def leNat : List Byte → Nat
  | [] => 0
  | b :: bs => b.toNat + 256 * leNat bs

/-- The low `n` bytes of a natural number, least significant first (`20_memory.md` R64). -/
def leBytes : Nat → Nat → List Byte
  | 0, _ => []
  | n + 1, v => lo8 v :: leBytes n (v / 256)

end Sys2Proof.Machine
end

