-- ==== Sys2Proof/Syntax.lean ====
section
/-! DEFINITION. The instructions: one constructor per row of `spec/opcode_table.json`, 24 wire instructions (one per
protocol and instruction, `30_encoding.md` R104, R105) and the four legal `CMD` values (`43_sequencer.md` R206). -/

namespace Sys2Proof

/-- The two protocols (`00_scope.md` R2, `10_state.md` R24). -/
inductive Proto where
  | p1
  | p2
  deriving DecidableEq, Repr

/-- The twelve wire instructions by name (`30_encoding.md` R104). -/
inductive WireInstr where
  | ping
  | read
  | write
  | regWrite
  | action
  | factoryReset
  | reboot
  | syncRead
  | syncWrite
  | bulkRead
  | bulkWrite
  | statusResponse
  deriving DecidableEq, Repr

/-- The instructions. A wire instruction carries the tuple the source's encoder takes besides the instruction itself: the
device id and the unstuffed parameter bytes, first byte first (`10_state.md` R21, `30_encoding.md` R116). A START command
has no operands: it acts on the request registers (`43_sequencer.md` R205). -/
inductive Instr where
  | pingP1 (id : Byte) (params : List Byte)
  | readP1 (id : Byte) (params : List Byte)
  | writeP1 (id : Byte) (params : List Byte)
  | regWriteP1 (id : Byte) (params : List Byte)
  | actionP1 (id : Byte) (params : List Byte)
  | factoryResetP1 (id : Byte) (params : List Byte)
  | rebootP1 (id : Byte) (params : List Byte)
  | syncReadP1 (id : Byte) (params : List Byte)
  | syncWriteP1 (id : Byte) (params : List Byte)
  | bulkReadP1 (id : Byte) (params : List Byte)
  | bulkWriteP1 (id : Byte) (params : List Byte)
  | statusP1 (id : Byte) (params : List Byte)
  | pingP2 (id : Byte) (params : List Byte)
  | readP2 (id : Byte) (params : List Byte)
  | writeP2 (id : Byte) (params : List Byte)
  | regWriteP2 (id : Byte) (params : List Byte)
  | actionP2 (id : Byte) (params : List Byte)
  | factoryResetP2 (id : Byte) (params : List Byte)
  | rebootP2 (id : Byte) (params : List Byte)
  | syncReadP2 (id : Byte) (params : List Byte)
  | syncWriteP2 (id : Byte) (params : List Byte)
  | bulkReadP2 (id : Byte) (params : List Byte)
  | bulkWriteP2 (id : Byte) (params : List Byte)
  | statusP2 (id : Byte) (params : List Byte)
  | startTx
  | startRx
  | startTxrx
  | startCollect
  deriving DecidableEq, Repr

/-- The constructor that stands for a (protocol, instruction) pair. -/
def Instr.ofRequest : Proto → WireInstr → Byte → List Byte → Instr
  | .p1, .ping => .pingP1
  | .p1, .read => .readP1
  | .p1, .write => .writeP1
  | .p1, .regWrite => .regWriteP1
  | .p1, .action => .actionP1
  | .p1, .factoryReset => .factoryResetP1
  | .p1, .reboot => .rebootP1
  | .p1, .syncRead => .syncReadP1
  | .p1, .syncWrite => .syncWriteP1
  | .p1, .bulkRead => .bulkReadP1
  | .p1, .bulkWrite => .bulkWriteP1
  | .p1, .statusResponse => .statusP1
  | .p2, .ping => .pingP2
  | .p2, .read => .readP2
  | .p2, .write => .writeP2
  | .p2, .regWrite => .regWriteP2
  | .p2, .action => .actionP2
  | .p2, .factoryReset => .factoryResetP2
  | .p2, .reboot => .rebootP2
  | .p2, .syncRead => .syncReadP2
  | .p2, .syncWrite => .syncWriteP2
  | .p2, .bulkRead => .bulkReadP2
  | .p2, .bulkWrite => .bulkWriteP2
  | .p2, .statusResponse => .statusP2

/-- A request: protocol, instruction, device id, unstuffed parameters (`30_encoding.md` R116). -/
structure Request where
  proto : Proto
  instr : WireInstr
  id : Byte
  params : List Byte
  deriving DecidableEq, Repr

/-- The request a wire instruction is; `none` for a START command. -/
def Instr.request? : Instr → Option Request
  | .pingP1 id p => some ⟨.p1, .ping, id, p⟩
  | .readP1 id p => some ⟨.p1, .read, id, p⟩
  | .writeP1 id p => some ⟨.p1, .write, id, p⟩
  | .regWriteP1 id p => some ⟨.p1, .regWrite, id, p⟩
  | .actionP1 id p => some ⟨.p1, .action, id, p⟩
  | .factoryResetP1 id p => some ⟨.p1, .factoryReset, id, p⟩
  | .rebootP1 id p => some ⟨.p1, .reboot, id, p⟩
  | .syncReadP1 id p => some ⟨.p1, .syncRead, id, p⟩
  | .syncWriteP1 id p => some ⟨.p1, .syncWrite, id, p⟩
  | .bulkReadP1 id p => some ⟨.p1, .bulkRead, id, p⟩
  | .bulkWriteP1 id p => some ⟨.p1, .bulkWrite, id, p⟩
  | .statusP1 id p => some ⟨.p1, .statusResponse, id, p⟩
  | .pingP2 id p => some ⟨.p2, .ping, id, p⟩
  | .readP2 id p => some ⟨.p2, .read, id, p⟩
  | .writeP2 id p => some ⟨.p2, .write, id, p⟩
  | .regWriteP2 id p => some ⟨.p2, .regWrite, id, p⟩
  | .actionP2 id p => some ⟨.p2, .action, id, p⟩
  | .factoryResetP2 id p => some ⟨.p2, .factoryReset, id, p⟩
  | .rebootP2 id p => some ⟨.p2, .reboot, id, p⟩
  | .syncReadP2 id p => some ⟨.p2, .syncRead, id, p⟩
  | .syncWriteP2 id p => some ⟨.p2, .syncWrite, id, p⟩
  | .bulkReadP2 id p => some ⟨.p2, .bulkRead, id, p⟩
  | .bulkWriteP2 id p => some ⟨.p2, .bulkWrite, id, p⟩
  | .statusP2 id p => some ⟨.p2, .statusResponse, id, p⟩
  | .startTx => none
  | .startRx => none
  | .startTxrx => none
  | .startCollect => none

end Sys2Proof
end

