-- ==== Sys2Proof/Machine/Codes.lean ====
section
/-! DEFINITION. Codes and tables: instruction bytes (`30_encoding.md` R104 to R106), id classes (R100), availability (R105),
reply classes (`43_sequencer.md` R208, R209), per-protocol constants (`42_decode.md` R170) and the constraints on a
configuration (`00_scope.md` R7). -/

namespace Sys2Proof.Machine

/-- The byte of a wire instruction (`30_encoding.md` R104). -/
def opcByte (o : Opc) : WireInstr → Byte
  | .ping => o.ping
  | .read => o.read
  | .write => o.write
  | .regWrite => o.regWrite
  | .action => o.action
  | .factoryReset => o.factoryReset
  | .reboot => o.reboot
  | .syncRead => o.syncRead
  | .syncWrite => o.syncWrite
  | .bulkRead => o.bulkRead
  | .bulkWrite => o.bulkWrite
  | .statusResponse => o.statusResponse

/-- The twelve wire instructions in the order of `30_encoding.md` R104. -/
def wireInstrs : List WireInstr :=
  [.ping, .read, .write, .regWrite, .action, .factoryReset, .reboot, .syncRead, .syncWrite, .bulkRead, .bulkWrite,
    .statusResponse]

/-- `InstrOf(b)`: the instruction whose byte is `b`; `none` is the spec's `Unknown` (`30_encoding.md` R104, R106). -/
def instrOf (o : Opc) (b : Byte) : Option WireInstr := wireInstrs.find? (fun i => opcByte o i == b)

/-- `OPC` is injective: twelve distinct bytes (`30_encoding.md` R104). -/
abbrev opcInjective (o : Opc) : Prop := (wireInstrs.map (opcByte o)).Nodup

/-- The constraints a configuration must satisfy (`00_scope.md` R7, `30_encoding.md` R104). -/
abbrev configValid (c : Config) : Prop :=
  (6 ≤ c.txMax1 ∧ c.txMax1 ≤ 259) ∧ (6 ≤ c.rxMax1 ∧ c.rxMax1 ≤ 259) ∧
    (10 ≤ c.txMax2 ∧ c.txMax2 ≤ 65542) ∧ (10 ≤ c.rxMax2 ∧ c.rxMax2 ≤ 65542) ∧
    c.crcPoly.getLsbD 0 = true ∧ opcInjective c.opc

/-- `Avail(proto, instr)` (`30_encoding.md` R105): SyncRead, Reboot and BulkWrite are P2 only, StatusResponse is never a
request. -/
def avail : Proto → WireInstr → Bool
  | .p1, .reboot => false
  | .p1, .syncRead => false
  | .p1, .bulkWrite => false
  | _, .statusResponse => false
  | _, _ => true

/-- `ExpectsUnique(instr)`: Ping and Read, false for `Unknown` (`43_sequencer.md` R208). -/
def expectsUnique : Option WireInstr → Bool
  | some .ping => true
  | some .read => true
  | _ => false

/-- The instructions that never have a response: SyncWrite and BulkWrite (`43_sequencer.md` R209). -/
def neverReplies : Option WireInstr → Bool
  | some .syncWrite => true
  | some .bulkWrite => true
  | _ => false

/-- The broadcast id (`30_encoding.md` R100). -/
def broadcastId : Byte := 254

/-- Ids that are no target and make a received frame `Corrupt`: 253 and 255 (`30_encoding.md` R100). -/
def reservedId (id : Byte) : Bool := id == 253 || id == 255

/-- Ids 0 to 252, the addressable devices (`30_encoding.md` R100). -/
def addressableId (id : Byte) : Bool := decide (id.toNat ≤ 252)

/-- The header marker `MARK` (`30_encoding.md` R93, `42_decode.md` R170). -/
def headerMark : Proto → List Byte
  | .p1 => [0xFF, 0xFF]
  | .p2 => [0xFF, 0xFF, 0xFD, 0x00]

/-- `LP`: bytes from the marker's first needed to hold the whole length field (`42_decode.md` R170). -/
def lenEnd : Proto → Nat
  | .p1 => 4
  | .p2 => 7

/-- `IDX_ID` (`42_decode.md` R170). -/
def idxId : Proto → Nat
  | .p1 => 2
  | .p2 => 4

/-- `IDX_IE` (`42_decode.md` R170). -/
def idxSlot : Proto → Nat
  | .p1 => 4
  | .p2 => 7

/-- `IDX_P` (`42_decode.md` R170). -/
def idxParam : Proto → Nat
  | .p1 => 5
  | .p2 => 8

/-- `LENOF(f)` (`42_decode.md` R170). -/
def lenOf : Proto → List Byte → Nat
  | .p1, f => (byteAt f 3).toNat
  | .p2, f => (byteAt f 5).toNat + 256 * (byteAt f 6).toNat

/-- `OV`: total frame length minus `LEN` (`42_decode.md` R170). -/
def lenOverhead : Proto → Nat
  | .p1 => 4
  | .p2 => 7

/-- `LMIN`: least legal `LEN` (`42_decode.md` R170). -/
def lenMin : Proto → Nat
  | .p1 => 2
  | .p2 => 3

/-- `TR`: width of the trailer (`42_decode.md` R170). -/
def trailerWidth : Proto → Nat
  | .p1 => 1
  | .p2 => 2

/-- `RXMAX` (`42_decode.md` R170). -/
def rxMax (c : Config) : Proto → Nat
  | .p1 => c.rxMax1
  | .p2 => c.rxMax2

/-- The largest transmit frame (`00_scope.md` R7). -/
def txMax (c : Config) : Proto → Nat
  | .p1 => c.txMax1
  | .p2 => c.txMax2

/-- `TXPCAP` (`10_state.md` R33). -/
def txpCap (c : Config) : Nat := max (c.txMax1 - 6) (c.txMax2 - 10)

/-- `RXPCAP` (`10_state.md` R34). -/
def rxpCap (c : Config) : Nat := max (c.rxMax1 - 6) (c.rxMax2 - 10)

end Sys2Proof.Machine
end

