-- ==== Sys2Proof/Machine/Integrity.lean ====
section
/-! DEFINITION. The integrity functions of `40_integrity.md`: `Checksum8`, `Crc16` and its table form, `Stuff`, `Unstuff`,
`Check1`, `Check2`. -/

namespace Sys2Proof.Machine

/-- `sum(l)` as a natural number (`00_scope.md` R10). -/
def byteSum (l : List Byte) : Nat := (l.map BitVec.toNat).sum

/-- `Checksum8(l) = NOT_8(sum(l) mod 256)` (`40_integrity.md` R131). -/
def checksum8 (l : List Byte) : Byte := ~~~ (BitVec.ofNat 8 (byteSum l))

/-- `Check1(f)` on a complete P1 candidate (`40_integrity.md` R132). -/
def check1 (f : List Byte) : Bool := byteAt f (f.length - 1) == checksum8 (slice 2 (f.length - 1) f)

/-- One turn of the inner loop of `40_integrity.md` R135. -/
def crcShift (poly c : Half) : Half := if c.msb then (c <<< 1) ^^^ poly else c <<< 1

/-- The inner loop of `40_integrity.md` R135: eight turns. -/
def crcShift8 (poly c : Half) : Half :=
  crcShift poly (crcShift poly (crcShift poly (crcShift poly
    (crcShift poly (crcShift poly (crcShift poly (crcShift poly c)))))))

/-- One byte of `40_integrity.md` R135: `c XOR (b << 8)`, then the inner loop. -/
def crcByte (poly c : Half) (b : Byte) : Half := crcShift8 poly (c ^^^ (b.setWidth 16 <<< 8))

/-- The loop of `40_integrity.md` R135 on `l`, started from `c`. -/
def crcFrom (poly c : Half) (l : List Byte) : Half := l.foldl (crcByte poly) c

/-- `Crc16(l)` (`40_integrity.md` R135). -/
def crc16 (c : Config) (l : List Byte) : Half := crcFrom c.crcPoly c.crcInit l

/-- The table entry `T[i]` (`40_integrity.md` R136). -/
def crcTable (poly : Half) (i : Byte) : Half := crcShift8 poly (i.setWidth 16 <<< 8)

/-- The per-byte step in table form (`40_integrity.md` R136). -/
def crcByteTable (poly c : Half) (b : Byte) : Half :=
  (c <<< 8) ^^^ crcTable poly ((c >>> 8).setWidth 8 ^^^ b)

/-- `Crc16(l)` in table form (`40_integrity.md` R136). -/
def crc16Table (c : Config) (l : List Byte) : Half := l.foldl (crcByteTable c.crcPoly) c.crcInit

/-- `Check2(f)` on a complete P2 candidate (`40_integrity.md` R137), over the bytes as received. -/
def check2 (c : Config) (f : List Byte) : Bool :=
  (byteAt f (f.length - 2)).toNat + 256 * (byteAt f (f.length - 1)).toNat == (crc16 c (slice 0 (f.length - 2) f)).toNat

/-- The byte `x` completes the pattern `FF FF FD`, `a` and `b` being the two bytes before it (`40_integrity.md` R141). -/
def completesPattern (a b x : Byte) : Bool := a == 0xFF && b == 0xFF && x == 0xFD

/-- `Stuff`, `a` and `b` being the two input bytes before the list (0 where there is none). -/
def stuffFrom (a b : Byte) : List Byte → List Byte
  | [] => []
  | x :: xs =>
    if completesPattern a b x then x :: 0xFD :: stuffFrom b x xs
    else x :: stuffFrom b x xs

/-- `Stuff(p)` (`40_integrity.md` R141). -/
def stuff (p : List Byte) : List Byte := stuffFrom 0 0 p

/-- `Unstuff`, `a` and `b` being the two wire bytes before the list (0 where there is none). -/
def unstuffFrom (a b : Byte) : List Byte → List Byte
  | [] => []
  | [x] => [x]
  | x :: y :: ys =>
    if completesPattern a b x && y == 0xFD then x :: unstuffFrom x y ys
    else x :: unstuffFrom b x (y :: ys)

/-- `Unstuff(w)` (`40_integrity.md` R143). -/
def unstuff (w : List Byte) : List Byte := unstuffFrom 0 0 w

end Sys2Proof.Machine
end

