-- ==== Sys2Proof/Machine/Scanner.lean ====
section
/-! DEFINITION. The response header scanner and the status view of `42_decode.md`. -/

namespace Sys2Proof.Machine

/-- `FindHeader(proto, buf)`: the least index at which the whole marker stands (`42_decode.md` R171). -/
def findHeader (proto : Proto) : List Byte → Option Nat
  | [] => none
  | b :: bs =>
    if (headerMark proto).isPrefixOf (b :: bs) then some 0
    else (findHeader proto bs).map (· + 1)

/-- The verdicts of `Scan` with their attachments (`42_decode.md` R172, R173). -/
inductive Verdict where
  | needMore (keep : List Byte)
  | corrupt
  | frame (id ie : Byte) (params rest : List Byte)
  deriving DecidableEq, Repr

/-- The integrity test of a complete candidate (`42_decode.md` R170). -/
def integrityOk (c : Config) : Proto → List Byte → Bool
  | .p1, g => check1 g
  | .p2, g => check2 c g

/-- Step G: the parameters delivered from the wire parameter bytes (`42_decode.md` R172, R177). -/
def deliveredParams : Proto → List Byte → List Byte
  | .p1, w => w
  | .p2, w => unstuff w

/-- Steps C to G of `42_decode.md` R172 on `f`, the buffer from the first marker on. -/
def scanFrom (c : Config) (proto : Proto) (f : List Byte) : Verdict :=
  if f.length < lenEnd proto then .needMore f
  else if reservedId (byteAt f (idxId proto)) then .corrupt
  else if lenOf proto f < lenMin proto ∨ lenOf proto f + lenOverhead proto > rxMax c proto then .corrupt
  else
    let total := lenOf proto f + lenOverhead proto
    if f.length < total then .needMore f
    else if integrityOk c proto (f.take total) = false then .corrupt
    else
      .frame (byteAt f (idxId proto)) (byteAt f (idxSlot proto))
        (deliveredParams proto (slice (idxParam proto) (total - trailerWidth proto) f)) (f.drop total)

/-- `Scan(proto, buf)` (`42_decode.md` R172). -/
def scan (c : Config) (proto : Proto) (buf : List Byte) : Verdict :=
  match findHeader proto buf with
  | none => if buf.length ≥ rxMax c proto then .corrupt else .needMore buf
  | some h => scanFrom c proto (buf.drop h)

/-- The pair a status frame shows: hardware error byte and data (`42_decode.md` R185). -/
structure Status where
  err : Byte
  data : List Byte
  deriving DecidableEq, Repr

/-- `StatusView(proto, ie, params)` (`42_decode.md` R185, `30_encoding.md` R110). -/
def statusView (c : Config) : Proto → Byte → List Byte → Option Status
  | .p1, ie, params => some ⟨ie, params⟩
  | .p2, ie, params =>
    match c.statusForm with
    | .errInSlot => some ⟨ie, params⟩
    | .instrThenErr =>
      match params with
      | [] => none
      | e :: data => if ie = c.opc.statusResponse then some ⟨e, data⟩ else none

end Sys2Proof.Machine
end

