-- ==== Sys2Proof/Machine/Framer.lean ====
section
/-! DEFINITION. The transmit framers and the request encoder of `41_encode.md`. -/

namespace Sys2Proof.Machine

/-- `FrameP1(id, ie, p)` (`41_encode.md` R151, `30_encoding.md` R91). -/
def frameP1 (id ie : Byte) (p : List Byte) : List Byte :=
  let body := [id, lo8 (p.length + 2), ie] ++ p
  [0xFF, 0xFF] ++ body ++ [checksum8 body]

/-- `FrameP2(id, ie, p)` (`41_encode.md` R154, `30_encoding.md` R92). -/
def frameP2 (c : Config) (id ie : Byte) (p : List Byte) : List Byte :=
  let sp := stuff p
  let len := sp.length + 3
  let pre := [0xFF, 0xFF, 0xFD, 0x00, id, lo8 len, hi8 len, ie] ++ sp
  let crc := (crc16 c pre).toNat
  pre ++ [lo8 crc, hi8 crc]

/-- The framer of a protocol (`30_encoding.md` R90). -/
def frame (c : Config) : Proto → Byte → Byte → List Byte → List Byte
  | .p1, id, ie, p => frameP1 id ie p
  | .p2, id, ie, p => frameP2 c id ie p

/-- The length of the frame before it is built: `|p| + 6`, `|Stuff(p)| + 10` (`41_encode.md` R151, R154). -/
def frameLength : Proto → List Byte → Nat
  | .p1, p => p.length + 6
  | .p2, p => (stuff p).length + 10

/-- The result of `EncodeReq` (`41_encode.md` R158). -/
inductive EncodeResult where
  | frame (f : List Byte)
  | notAvailable
  | txError
  deriving DecidableEq, Repr

/-- `EncodeReq(proto, id, b, p)`, the checks in the spec's order (`41_encode.md` R158). -/
def encodeReq (c : Config) (proto : Proto) (id b : Byte) (p : List Byte) : EncodeResult :=
  if reservedId id then .notAvailable
  else
    match instrOf c.opc b with
    | none => .notAvailable
    | some i =>
      if avail proto i = false then .notAvailable
      else if frameLength proto p > txMax c proto then .txError
      else .frame (frame c proto id b p)

end Sys2Proof.Machine
end

