-- ==== Sys2Proof/WellFormed.lean ====
section
/-! DEFINITION. Well-formed instructions: a wire instruction that can travel in a frame the scanner of the same protocol
accepts (`30_encoding.md` R94, R95, R100, `41_encode.md` R160). Availability is no matter of form: a request that is not
available has a meaning of its own, the result `NotAvailable` (`30_encoding.md` R105). -/

namespace Sys2Proof

/-- Why an instruction is ill formed. -/
inductive IllFormed where
  /-- the id is 253 or 255 (`30_encoding.md` R100) -/
  | reservedId
  /-- the frame would be longer than `RXMAX` (`30_encoding.md` R94, R95) -/
  | frameTooLong
  deriving DecidableEq, Repr

/-- The checks of one request, in order. -/
def Request.check (c : Config) (r : Request) : Except IllFormed Unit :=
  if Machine.reservedId r.id then .error .reservedId
  else if Machine.frameLength r.proto r.params > Machine.rxMax c r.proto then .error .frameTooLong
  else .ok ()

/-- The checks of an instruction; a START command has no operands and nothing to check. -/
def Instr.check (c : Config) (i : Instr) : Except IllFormed Unit :=
  match i.request? with
  | none => .ok ()
  | some r => r.check c

/-- A well-formed instruction passes every check. -/
def Instr.wellFormed (c : Config) (i : Instr) : Bool :=
  match i.check c with
  | .ok _ => true
  | .error _ => false

end Sys2Proof
end

