-- ==== Sys2Proof/Decode.lean ====
section
/-! DEFINITION. Decoding and encoding. Three encodings exist (`30_encoding.md` R114, R120): P1 frames, P2 frames and values
written to `CMD`; which one bytes are in is never recognised from the bytes (R120), so the decoder is told. The strict
decoder reads a whole frame and validates it with `Scan`; the prefix reader identifies the instruction of a table row from
the bytes the table gives it and validates nothing else (R120). The encoder stands after it. -/

namespace Sys2Proof

open Machine

/-- Which of the three encodings bytes are in (`30_encoding.md` R120, key `format`). -/
inductive Format where
  | frame (proto : Proto)
  | cmd
  deriving DecidableEq, Repr

/-- Why bytes are no instruction. -/
inductive DecodeError where
  /-- the header marker does not stand at the first byte (`30_encoding.md` R93) -/
  | noHeader
  /-- fewer bytes than the length field claims, or than the length field needs (`42_decode.md` R180 `NeedMore`) -/
  | incomplete
  /-- fields out of range or integrity test failed (`42_decode.md` R180 `Corrupt`) -/
  | corrupt
  /-- bytes after the frame's end -/
  | trailingBytes
  /-- the slot byte is no instruction's (`30_encoding.md` R106) -/
  | reservedInstr (b : Byte)
  /-- a `CMD` value is written as four bytes (`20_memory.md` R62) -/
  | notOneWord
  /-- a `CMD` value that is none of the four legal ones (`43_sequencer.md` R206) -/
  | illegalCommand
  deriving DecidableEq, Repr

/-- The instruction a value written to `CMD` is (`43_sequencer.md` R206, `10_state.md` R26). -/
def decodeCmd (v : Word) : Except DecodeError Instr :=
  if v = 1 then .ok .startTx
  else if v = 2 then .ok .startRx
  else if v = 3 then .ok .startTxrx
  else if v = 7 then .ok .startCollect
  else .error .illegalCommand

/-- The instruction a decoded frame's slot byte names (`30_encoding.md` R104, R106). -/
def decodeSlot (c : Config) (proto : Proto) (id ie : Byte) (params : List Byte) : Except DecodeError Instr :=
  match instrOf c.opc ie with
  | none => .error (.reservedInstr ie)
  | some i => .ok (Instr.ofRequest proto i id params)

/-- The instruction of one whole frame, validated by `Scan` (`42_decode.md` R172). -/
def decodeFrame (c : Config) (proto : Proto) (bytes : List Byte) : Except DecodeError Instr :=
  if (headerMark proto).isPrefixOf bytes = false then .error .noHeader
  else
    match scan c proto bytes with
    | .needMore _ => .error .incomplete
    | .corrupt => .error .corrupt
    | .frame id ie params rest =>
      if rest ≠ [] then .error .trailingBytes
      else decodeSlot c proto id ie params

/-- The decoder, total on any bytes. -/
def decode (c : Config) : Format → List Byte → Except DecodeError Instr
  | .frame proto, bytes => decodeFrame c proto bytes
  | .cmd, bytes => if bytes.length ≠ 4 then .error .notOneWord else decodeCmd (BitVec.ofNat 32 (leNat bytes))

/-- The wire parameter bytes a length field claims, read from the bytes after the slot byte; every byte not given is 0. -/
def claimedParams (proto : Proto) (bytes : List Byte) : List Byte :=
  let n := lenOf proto bytes - lenMin proto
  ((bytes.drop (idxParam proto) ++ List.replicate n 0).take n)

/-- The prefix reader of `30_encoding.md` R120: header marker and slot byte identify the instruction, the id and the
length field give its operands, and nothing is validated. A length field below its minimum claims no parameters. -/
def identify (c : Config) (proto : Proto) (bytes : List Byte) : Except DecodeError Instr :=
  if (headerMark proto).isPrefixOf bytes = false then .error .noHeader
  else if bytes.length < idxParam proto then .error .incomplete
  else
    decodeSlot c proto (byteAt bytes (idxId proto)) (byteAt bytes (idxSlot proto))
      (deliveredParams proto (claimedParams proto bytes))

/-- `identify` on the low `k` bytes of `w`, the first byte in bits 7..0; where the marker does not stand there, with the
first byte leftmost, as `opcode_table.json` writes its hex strings (`30_encoding.md` R120). -/
def identifyTable (c : Config) (proto : Proto) (k w : Nat) : Except DecodeError Instr :=
  match identify c proto (leBytes k w) with
  | .ok i => .ok i
  | .error _ => identify c proto (leBytes k w).reverse

/-- The instruction of an opcode-table word: 40 bits are a P1 frame's first 5 bytes, 64 bits a P2 frame's first 8 bytes,
32 bits a `CMD` value (`30_encoding.md` R120); `OPC` has its defaults. -/
def decodeTableWord (nbits w : Nat) : Option Instr :=
  if nbits = 32 then (decodeCmd (BitVec.ofNat 32 w)).toOption
  else if nbits = 40 then (identifyTable Config.default .p1 5 w).toOption
  else if nbits = 64 then (identifyTable Config.default .p2 8 w).toOption
  else none

/-- The `CMD` value of a START command (`43_sequencer.md` R206). -/
def startValue : Instr → Option Word
  | .startTx => some 1
  | .startRx => some 2
  | .startTxrx => some 3
  | .startCollect => some 7
  | _ => none

/-- The encoding an instruction has. -/
def Instr.format (i : Instr) : Format :=
  match i.request? with
  | some r => .frame r.proto
  | none => .cmd

/-- The encoder: a wire instruction's request frame (`30_encoding.md` R91, R92), a START command's `CMD` value as the four
bytes of a little-endian word. -/
def encode (c : Config) (i : Instr) : List Byte :=
  match i.request? with
  | some r => frame c r.proto r.id (opcByte c.opc r.instr) r.params
  | none => leBytes 4 ((startValue i).getD 0).toNat

end Sys2Proof
end

