-- ==== Sys2Proof/Machine/State.lean ====
section
/-! DEFINITION. The state of MPF (`10_state.md` R20 to R38), plain data, and the state after reset (R48 to R50).
Fields marked MODEL are the model's own and stand for no state of the spec. -/

namespace Sys2Proof.Machine

/-- The sequencer phase (`10_state.md` R36, `43_sequencer.md` R200). -/
inductive Phase where
  | idle
  | tx
  | rx
  deriving DecidableEq, Repr

/-- The CommResult and the reset value `None` of `RESULT.CODE` (`60_exceptions.md` R301). -/
inductive CommResult where
  | success
  | portBusy
  | txFail
  | rxFail
  | txError
  | rxWaiting
  | rxTimeout
  | rxCorrupt
  | notAvailable
  | none
  deriving DecidableEq, Repr

/-- The events, the only things that change the state (`10_state.md` R45). `Start(v)` is the 4-byte `HostWrite` to `CMD`. -/
inductive Event where
  | reset
  | hostRead (addr n : Nat)
  | hostWrite (addr n : Nat) (v : Word)
  | txAccept
  | txRefuse
  | rxByte (b : Byte)
  | tick
  deriving DecidableEq, Repr

/-- The outputs of a step (`10_state.md` R46). -/
inductive Output where
  | txByte (b : Byte)
  | flush
  deriving DecidableEq, Repr

/-- The two byte buffers as (host offset, byte) pairs: `TXP[i]` at 0x10000 + i, `RXP[i]` at 0x20000 + i
(`10_state.md` R33, R34). A byte that is not listed has not been written since reset and has no value of its own
(`10_state.md` R50). -/
abbrev Memory := List Host.Cell

/-- The canonical form: offsets strictly rising, so each at most once. An unlisted byte has no fixed value, so no entry can
equal what an unlisted one reads as. -/
abbrev Memory.wf (m : Memory) : Prop := (m.map Prod.fst).Pairwise (· < ·)

/-- The machine. -/
structure State where
  /-- `CTRL.PROTO` (R24) -/
  proto : Proto
  /-- `CTRL.IRQ_EN` (R24) -/
  irqEn : Bool
  /-- `STATUS.DONE` (R25) -/
  done : Bool
  /-- `STATUS.BUSY_REJECT` (R25) -/
  busyReject : Bool
  /-- `STATUS.CORRUPT_SEEN` (R25) -/
  corruptSeen : Bool
  /-- `STATUS.IDMISS_SEEN` (R25) -/
  idmissSeen : Bool
  /-- `REQ_HDR.ID` (R27) -/
  reqId : Byte
  /-- `REQ_HDR.INSTR` (R27) -/
  reqInstr : Byte
  /-- `REQ_HDR.PLEN` (R27) -/
  reqPlen : Half
  /-- `REQ_RXLEN.RXLEN` (R28) -/
  reqRxlen : Half
  /-- `T_LAT` (R29) -/
  tLat : Word
  /-- `T_BYTE` (R29) -/
  tByte : Half
  /-- `T_SLACK` (R29) -/
  tSlack : Word
  /-- `RESULT.CODE` (R30) -/
  result : CommResult
  /-- `RES_HDR.ID` (R31) -/
  resId : Byte
  /-- `RES_HDR.ERR` (R31) -/
  resErr : Byte
  /-- `RES_HDR.PLEN` (R31) -/
  resPlen : Half
  /-- `IDMAP0` to `IDMAP7`, bit `id` for device `id` (R35) -/
  idmap : BitVec 256
  /-- `IDCOUNT` (R35) -/
  idcount : Byte
  /-- `TXP` and `RXP` (R33, R34) -/
  mem : Memory
  /-- `phase` (R36) -/
  phase : Phase
  /-- `cur.proto` (R36) -/
  curProto : Proto
  /-- `cur.id` (R36) -/
  curId : Byte
  /-- `cur.rx` (R36) -/
  curRx : Bool
  /-- `cur.collect` (R36) -/
  curCollect : Bool
  /-- `txq` (R36) -/
  txq : List Byte
  /-- `rxbuf` (R36) -/
  rxbuf : List Byte
  /-- `elapsed`, read as `ELAPSED` (R32, R36) -/
  elapsed : Word
  /-- `budget`, read as `BUDGET` (R32, R36) -/
  budget : Word
  /-- MODEL: the configuration record (`00_scope.md` R7), written by no step -/
  cfg : Config
  /-- MODEL: the argument `v` of the `Start(v)` being carried out (R45) -/
  cmd : Word
  /-- MODEL: what the last `HostRead` returned (`20_memory.md` R63) -/
  rdata : Word
  /-- MODEL: which free value the next unwritten buffer byte reads as (R50) -/
  free : Nat
  /-- MODEL: the events still to come, next first (R45) -/
  events : List Event
  /-- MODEL: the outputs emitted so far, oldest first (R46) -/
  out : List Output
  deriving DecidableEq, Repr

/-- The reasons a step can stop with a fault: none. Every event is total (`10_state.md` R45) and there is no bus error
(`20_memory.md` R62), so MPF has nothing to raise; safe, because the machine never stops where it would go on. -/
inductive Fault where
  deriving DecidableEq, Repr

/-- The reasons a step can be refused. -/
inductive Refusal where
  /-- raised by an arm of `exec` whose instruction has no meaning yet (no arm is such); safe -/
  | notModelled (mnemonic : String)
  deriving DecidableEq, Repr

/-- The outcome of a step of this machine. -/
abbrev Outcome := Host.Outcome State Fault Refusal

/-- The state after reset (`10_state.md` R48 to R50): every register zero but `RESULT.CODE` = 15, no buffer byte written.
The MODEL fields have the values log entries 1 to 6 name. -/
def State.reset : State where
  proto := .p1
  irqEn := false
  done := false
  busyReject := false
  corruptSeen := false
  idmissSeen := false
  reqId := 0
  reqInstr := 0
  reqPlen := 0
  reqRxlen := 0
  tLat := 0
  tByte := 0
  tSlack := 0
  result := .none
  resId := 0
  resErr := 0
  resPlen := 0
  idmap := 0
  idcount := 0
  mem := []
  phase := .idle
  curProto := .p1
  curId := 0
  curRx := false
  curCollect := false
  txq := []
  rxbuf := []
  elapsed := 0
  budget := 0
  cfg := Config.default
  cmd := 0
  rdata := 0
  free := 0
  events := []
  out := []

end Sys2Proof.Machine
end

