-- ==== Sys2Proof/Machine/Ops.lean ====
section
/-! DEFINITION. The shared operations: buffer memory, outputs, the id map, completion of a request (the counterpart of
taking an exception, `60_exceptions.md` R320, R321) and its acknowledgement (the return, R323). -/

namespace Sys2Proof.Machine

/-- Offset of `TXP[0]` in the host register space (`10_state.md` R33). -/
def txpBase : Nat := 0x10000

/-- Offset of `RXP[0]` in the host register space (`10_state.md` R34). -/
def rxpBase : Nat := 0x20000

/-- The byte written last at an offset, `none` if none has been written since reset. -/
def Memory.read? : Memory → Nat → Option Byte
  | [], _ => none
  | (k, b) :: m, a => if k = a then some b else Memory.read? m a

/-- Write one byte, keeping the canonical form. -/
def Memory.write : Memory → Nat → Byte → Memory
  | [], a, b => [(a, b)]
  | (k, c) :: m, a, b =>
    if a < k then (a, b) :: (k, c) :: m
    else if a = k then (a, b) :: m
    else (k, c) :: Memory.write m a b

/-- Write consecutive bytes from offset `a` on. -/
def Memory.writeList : Memory → Nat → List Byte → Memory
  | m, _, [] => m
  | m, a, b :: bs => Memory.writeList (Memory.write m a b) (a + 1) bs

/-- A buffer byte as it reads: `base` and `cap` say which buffer, `i` which byte, `k` which free value an unwritten byte
takes. At or beyond the capacity a byte counts as 0 (`20_memory.md` R63, `43_sequencer.md` R205). -/
def bufferByte (s : State) (base cap i k : Nat) : Byte :=
  if cap ≤ i then 0
  else
    match s.mem.read? (base + i) with
    | some b => b
    | none => Config.freeByte (s.free + k)

/-- `emit X` (`00_scope.md` R11, `10_state.md` R46). -/
def emit (o : Output) (s : State) : State := { s with out := s.out ++ [o] }

/-- `complete(code)` (`60_exceptions.md` R320). -/
def complete (code : CommResult) (s : State) : State :=
  { s with result := code, done := true, phase := .idle, txq := [], rxbuf := [] }

/-- `complete(Success) with RES_HDR <- (id, err, |data|), RXP[0..|data|) <- data` (`60_exceptions.md` R321). -/
def completeWith (id err : Byte) (data : List Byte) (s : State) : State :=
  complete .success
    { s with
      resId := id
      resErr := err
      resPlen := BitVec.ofNat 16 data.length
      mem := s.mem.writeList rxpBase data }

/-- A START while a request is in flight: `BUSY_REJECT <- 1` and nothing else (`43_sequencer.md` R204). -/
def portBusy (s : State) : State := { s with busyReject := true }

/-- Writing `v` to `STATUS`: the host's acknowledgement. `DONE` and `BUSY_REJECT` are cleared where `v` has a 1
(`20_memory.md` R64, `60_exceptions.md` R323). -/
def acknowledge (v : Word) (s : State) : State :=
  { s with done := s.done && !v.getLsbD 1, busyReject := s.busyReject && !v.getLsbD 2 }

/-- The number of ids in a map (`10_state.md` R35). -/
def idCountOf (m : BitVec 256) : Nat := (List.range 256).countP (fun i => m.getLsbD i)

/-- Record one id: set its bit, count again (`43_sequencer.md` R219). -/
def recordId (id : Byte) (s : State) : State :=
  let m := s.idmap ||| (1#256 <<< id.toNat)
  { s with idmap := m, idcount := BitVec.ofNat 8 (idCountOf m) }

/-- The Reset event (`10_state.md` R48, R50, `70_reset_and_hazards.md` R340, R341): every register at its reset value, both
buffers unwritten; the configuration, the schedule, what was emitted and the free-value counter are not MPF's state. -/
def resetEvent (s : State) : State :=
  { State.reset with cfg := s.cfg, events := s.events, out := s.out, free := s.free }

end Sys2Proof.Machine
end

