-- ==== Sys2Proof/Machine/Flags.lean ====
section
/-! DEFINITION. The flags: `STATUS` as it reads (`10_state.md` R25), what START clears (R38), the output ports
(`10_state.md` R41, R42, R44, `60_exceptions.md` R310) and the codes of `RESULT` (`60_exceptions.md` R301). -/

namespace Sys2Proof.Machine

/-- `STATUS.BUSY` (`10_state.md` R25, R37). -/
def busy (s : State) : Bool := s.phase != .idle

/-- `STATUS.PHASE` (`10_state.md` R25). -/
def phaseCode : Phase → BitVec 2
  | .idle => 0
  | .tx => 1
  | .rx => 2

/-- The value of `STATUS` (`10_state.md` R25). -/
def statusWord (s : State) : Word :=
  (0 : BitVec 25) ++ phaseCode s.phase ++ BitVec.ofBool s.idmissSeen ++ BitVec.ofBool s.corruptSeen ++
    BitVec.ofBool s.busyReject ++ BitVec.ofBool s.done ++ BitVec.ofBool (busy s)

/-- `RESULT.CODE` (`60_exceptions.md` R301). -/
def resultCode : CommResult → BitVec 4
  | .success => 0
  | .portBusy => 1
  | .txFail => 2
  | .rxFail => 3
  | .txError => 4
  | .rxWaiting => 5
  | .rxTimeout => 6
  | .rxCorrupt => 7
  | .notAvailable => 8
  | .none => 15

/-- The flags a START clears that is not refused with port busy (`43_sequencer.md` R205, first line). -/
def clearForStart (s : State) : State := { s with done := false, corruptSeen := false, idmissSeen := false }

/-- Output `irq` (`60_exceptions.md` R310). -/
def irq (s : State) : Bool := s.done && s.irqEn

/-- Output `tx_valid` (`10_state.md` R41). -/
def txValid (s : State) : Bool := s.phase == .tx

/-- Output `tx_data`: `txq[0]` while `tx_valid`, any value otherwise (`10_state.md` R41, U8). -/
def txData (s : State) : Byte :=
  match s.phase, s.txq with
  | .tx, b :: _ => b
  | _, _ => Config.freeTxData s.free

/-- Output `rx_ready` (`10_state.md` R42). -/
def rxReady (s : State) : Bool := s.phase == .rx

/-- The event the transmit handshake inputs give (`10_state.md` R41, `60_exceptions.md` R316): `tx_fail` wins. -/
def txHandshake (s : State) (txReady txFail : Bool) : Option Event :=
  if txValid s = false then none
  else if txFail then some .txRefuse
  else if txReady then some .txAccept
  else none

/-- The event the receive handshake inputs give (`10_state.md` R42). -/
def rxHandshake (s : State) (rxValid : Bool) (rxData : Byte) : Option Event :=
  if rxValid && rxReady s then some (.rxByte rxData) else none

end Sys2Proof.Machine
end

