-- ==== Sys2Proof/Machine/Operands.lean ====
section
/-! DEFINITION. The operands of a request: what START reads from the request registers and from `TXP`
(`10_state.md` R21, `43_sequencer.md` R205), and the fields of the value written to `CMD` (`10_state.md` R26). -/

namespace Sys2Proof.Machine

/-- `CMD.TX` (`10_state.md` R26). -/
def cmdTx (v : Word) : Bool := v.getLsbD 0

/-- `CMD.RX` (`10_state.md` R26). -/
def cmdRx (v : Word) : Bool := v.getLsbD 1

/-- `CMD.COLLECT` (`10_state.md` R26). -/
def cmdCollect (v : Word) : Bool := v.getLsbD 2

/-- Command legality, check 1 of `43_sequencer.md` R205 (R206): bits 31:3 zero and a legal combination. -/
def legalCommand (v : Word) : Bool :=
  v >>> 3 == 0 &&
    ((cmdTx v, cmdRx v, cmdCollect v) == (true, false, false) ||
      (cmdTx v, cmdRx v, cmdCollect v) == (false, true, false) ||
      (cmdTx v, cmdRx v, cmdCollect v) == (true, true, false) ||
      (cmdTx v, cmdRx v, cmdCollect v) == (true, true, true))

/-- The instruction `REQ_HDR.INSTR` names, if any. -/
def requestInstr (s : State) : Option WireInstr := instrOf s.cfg.opc s.reqInstr

/-- `P <- [TXP[i] for i in 0 .. n-1]`, `n = REQ_HDR.PLEN`; bytes at or beyond `TXPCAP` count as 0 (`43_sequencer.md` R205),
a byte never written is a free value (`10_state.md` R50, `70_reset_and_hazards.md` R356). -/
def requestParams (s : State) : List Byte :=
  (List.range s.reqPlen.toNat).map (fun i => bufferByte s txpBase (txpCap s.cfg) i i)

/-- The budget of `43_sequencer.md` R221, on natural numbers and then saturated. -/
def requestBudget (s : State) : Word :=
  satTW (s.tLat.toNat + s.tByte.toNat * s.reqRxlen.toNat + s.tSlack.toNat)

/-- The state in which the request that `Start(v)` read from the registers is carried: `v` is noted, and the free values
its parameters may have taken are used up. -/
def afterFetch (v : Word) (s : State) : State := { s with cmd := v, free := s.free + s.reqPlen.toNat }

end Sys2Proof.Machine
end

