-- ==== Sys2Proof/Machine/Start.lean ====
section
/-! DEFINITION. The START step (`43_sequencer.md` R204 to R211), written once over the request it carries. -/

namespace Sys2Proof.Machine

/-- Check 2 of `43_sequencer.md` R205, the target checks of R207; `i` is `InstrOf(b)`. -/
def targetRefused (v : Word) (proto : Proto) (id : Byte) (i : Option WireInstr) : Bool :=
  reservedId id ||
    (cmdCollect v && !(proto == .p2 && id == broadcastId && i == some .ping)) ||
    (!cmdCollect v && cmdTx v && id == broadcastId && expectsUnique i) ||
    (!cmdTx v && id == broadcastId)

/-- `cur.rx` of a request with a transmit phase (`43_sequencer.md` R209). -/
def receiveFollows (v : Word) (id : Byte) (i : Option WireInstr) : Bool :=
  cmdCollect v || (cmdRx v && id != broadcastId && !neverReplies i)

/-- Step 3 of `43_sequencer.md` R205, the latch: `cur`, `budget`, the id map in collect mode, `rxbuf`. -/
def latch (v : Word) (proto : Proto) (id : Byte) (s : State) : State :=
  { s with
    curProto := proto
    curId := id
    curCollect := cmdCollect v
    budget := requestBudget s
    idmap := if cmdCollect v then 0 else s.idmap
    idcount := if cmdCollect v then 0 else s.idcount
    rxbuf := [] }

/-- Step 3 of `43_sequencer.md` R205 with `TX`: flush, encode, and hand the frame to the transmit phase. -/
def transmit (v : Word) (proto : Proto) (id b : Byte) (params : List Byte) (s : State) : State :=
  let t := emit .flush s
  match encodeReq s.cfg proto id b params with
  | .notAvailable => complete .notAvailable t
  | .txError => complete .txError t
  | .frame f => { t with txq := f, curRx := receiveFollows v id (instrOf s.cfg.opc b), phase := .tx }

/-- Step 3 of `43_sequencer.md` R205 without `TX` (R210): the receive phase begins and the instant is marked. -/
def harvest (s : State) : State := { s with curRx := true, elapsed := 0, phase := .rx }

/-- `Start(v)` carrying the request (`proto`, `id`, instruction byte `b`, `params`) (`43_sequencer.md` R204, R205; the
order of the checks is `60_exceptions.md` R315). -/
def start (v : Word) (proto : Proto) (id b : Byte) (params : List Byte) (s : State) : State :=
  if s.phase ≠ .idle then portBusy s
  else if legalCommand v = false then complete .notAvailable (clearForStart s)
  else if targetRefused v proto id (instrOf s.cfg.opc b) then complete .notAvailable (clearForStart s)
  else if cmdTx v then transmit v proto id b params (latch v proto id (clearForStart s))
  else harvest (latch v proto id (clearForStart s))

/-- The START step in progress (its value is `State.cmd`) carries the wire instruction `i`: what every wire instruction does
in MPF (`44_instructions.md` R250, R252). -/
def carry (proto : Proto) (i : WireInstr) (id : Byte) (params : List Byte) (s : State) : State :=
  start s.cmd proto id (opcByte s.cfg.opc i) params s

end Sys2Proof.Machine
end

