-- ==== Sys2Proof/Machine/WireP2.lean ====
section
/-! DEFINITION. The wire instructions of protocol P2 (`44_instructions.md` R253 to R264): the START step that carries each. The
frame's parameters are opaque bytes (R250, R251); the device's own effect is outside MPF. -/

namespace Sys2Proof.Machine

/-- `PING` as a P2 request: answered by the addressed device; the broadcast id only in collect mode and P2 (`44_instructions.md` R253). -/
def execPingP2 (id : Byte) (params : List Byte) (s : State) : Outcome :=
  .next (carry .p2 .ping id params s)

/-- `READ` as a P2 request: answered by the addressed device; never to the broadcast id (`44_instructions.md` R254). -/
def execReadP2 (id : Byte) (params : List Byte) (s : State) : Outcome :=
  .next (carry .p2 .read id params s)

/-- `WRITE` as a P2 request: answered by an addressed device, not on the broadcast id (`44_instructions.md` R255). -/
def execWriteP2 (id : Byte) (params : List Byte) (s : State) : Outcome :=
  .next (carry .p2 .write id params s)

/-- `REGWRITE` as a P2 request: answered as Write; the device stages the data (`44_instructions.md` R256). -/
def execRegWriteP2 (id : Byte) (params : List Byte) (s : State) : Outcome :=
  .next (carry .p2 .regWrite id params s)

/-- `ACTION` as a P2 request: answered as Write; the device performs what it staged (`44_instructions.md` R257). -/
def execActionP2 (id : Byte) (params : List Byte) (s : State) : Outcome :=
  .next (carry .p2 .action id params s)

/-- `FRESET` as a P2 request: answered as Write (`44_instructions.md` R258). -/
def execFactoryResetP2 (id : Byte) (params : List Byte) (s : State) : Outcome :=
  .next (carry .p2 .factoryReset id params s)

/-- `REBOOT` as a P2 request: answered as Write (`44_instructions.md` R259). -/
def execRebootP2 (id : Byte) (params : List Byte) (s : State) : Outcome :=
  .next (carry .p2 .reboot id params s)

/-- `SYNCREAD` as a P2 request: on the broadcast id transmit-only, its responses harvested by receive-only STARTs (`44_instructions.md` R260). -/
def execSyncReadP2 (id : Byte) (params : List Byte) (s : State) : Outcome :=
  .next (carry .p2 .syncRead id params s)

/-- `SYNCWRITE` as a P2 request: never answered (`44_instructions.md` R261). -/
def execSyncWriteP2 (id : Byte) (params : List Byte) (s : State) : Outcome :=
  .next (carry .p2 .syncWrite id params s)

/-- `BULKREAD` as a P2 request: on the broadcast id transmit-only, its responses harvested by receive-only STARTs (`44_instructions.md` R262). -/
def execBulkReadP2 (id : Byte) (params : List Byte) (s : State) : Outcome :=
  .next (carry .p2 .bulkRead id params s)

/-- `BULKWRITE` as a P2 request: never answered (`44_instructions.md` R263). -/
def execBulkWriteP2 (id : Byte) (params : List Byte) (s : State) : Outcome :=
  .next (carry .p2 .bulkWrite id params s)

/-- `STATUS` as a P2 request: never a request, `NotAvailable` after the flush (`44_instructions.md` R264). -/
def execStatusP2 (id : Byte) (params : List Byte) (s : State) : Outcome :=
  .next (carry .p2 .statusResponse id params s)

end Sys2Proof.Machine
end

