-- ==== Sys2Proof/Machine/Commands.lean ====
section
/-! DEFINITION. The START commands (`43_sequencer.md` R204 to R211). A START with `TX` reads the request from the registers
and carries the wire instruction it finds there: each of the 24 by its own meaning. -/

namespace Sys2Proof.Machine

/-- The meaning of the wire instruction a request holds. -/
def carried : Proto → WireInstr → Byte → List Byte → State → Outcome
  | .p1, .ping => execPingP1
  | .p1, .read => execReadP1
  | .p1, .write => execWriteP1
  | .p1, .regWrite => execRegWriteP1
  | .p1, .action => execActionP1
  | .p1, .factoryReset => execFactoryResetP1
  | .p1, .reboot => execRebootP1
  | .p1, .syncRead => execSyncReadP1
  | .p1, .syncWrite => execSyncWriteP1
  | .p1, .bulkRead => execBulkReadP1
  | .p1, .bulkWrite => execBulkWriteP1
  | .p1, .statusResponse => execStatusP1
  | .p2, .ping => execPingP2
  | .p2, .read => execReadP2
  | .p2, .write => execWriteP2
  | .p2, .regWrite => execRegWriteP2
  | .p2, .action => execActionP2
  | .p2, .factoryReset => execFactoryResetP2
  | .p2, .reboot => execRebootP2
  | .p2, .syncRead => execSyncReadP2
  | .p2, .syncWrite => execSyncWriteP2
  | .p2, .bulkRead => execBulkReadP2
  | .p2, .bulkWrite => execBulkWriteP2
  | .p2, .statusResponse => execStatusP2

/-- `Start(v)` with `TX`: the request registers, `CTRL.PROTO` and `TXP[0..PLEN)` are read now and at no later time
(`43_sequencer.md` R205, `20_memory.md` R75). A busy MPF reads nothing (R204); an instruction byte that is no
instruction's has no meaning of its own and fails in `EncodeReq` (`30_encoding.md` R106). -/
def startFetched (v : Word) (s : State) : Outcome :=
  if s.phase ≠ .idle then .next (portBusy s)
  else
    match requestInstr s with
    | some i => carried s.proto i s.reqId (requestParams s) (afterFetch v s)
    | none => .next (start v s.proto s.reqId s.reqInstr (requestParams s) (afterFetch v s))

/-- A START that reads no parameters: receive-only (`43_sequencer.md` R210: `INSTR`, `PLEN` and `TXP` are ignored), or an
illegal value (R206). -/
def startUnfetched (v : Word) (s : State) : Outcome :=
  if s.phase ≠ .idle then .next (portBusy s)
  else .next (start v s.proto s.reqId s.reqInstr [] { s with cmd := v })

/-- `START TX` (0x1), transmit only (`43_sequencer.md` R206). -/
def execStartTx (s : State) : Outcome := startFetched 1 s

/-- `START RX` (0x2), receive only (`43_sequencer.md` R206, R210). -/
def execStartRx (s : State) : Outcome := startUnfetched 2 s

/-- `START TXRX` (0x3), the full exchange (`43_sequencer.md` R206). -/
def execStartTxrx (s : State) : Outcome := startFetched 3 s

/-- `START COLLECT` (0x7), broadcast ping (`43_sequencer.md` R206, R211). -/
def execStartCollect (s : State) : Outcome := startFetched 7 s

/-- A START whose value is none of the four legal ones (`43_sequencer.md` R206): no instruction, `NotAvailable`. -/
def startIllegal (v : Word) (s : State) : Outcome := startUnfetched v s

end Sys2Proof.Machine
end

