-- ==== Sys2Proof/Machine/Dispatch.lean ====
section
/-! DEFINITION. The dispatch: one arm per constructor of Instr, each one call of its meaning. -/

namespace Sys2Proof.Machine

def exec (i : Instr) (s : State) : Host.Outcome State Fault Refusal :=
  match i with
  | .pingP1 id params => Sys2Proof.Machine.execPingP1 id params s
  | .readP1 id params => Sys2Proof.Machine.execReadP1 id params s
  | .writeP1 id params => Sys2Proof.Machine.execWriteP1 id params s
  | .regWriteP1 id params => Sys2Proof.Machine.execRegWriteP1 id params s
  | .actionP1 id params => Sys2Proof.Machine.execActionP1 id params s
  | .factoryResetP1 id params => Sys2Proof.Machine.execFactoryResetP1 id params s
  | .rebootP1 id params => Sys2Proof.Machine.execRebootP1 id params s
  | .syncReadP1 id params => Sys2Proof.Machine.execSyncReadP1 id params s
  | .syncWriteP1 id params => Sys2Proof.Machine.execSyncWriteP1 id params s
  | .bulkReadP1 id params => Sys2Proof.Machine.execBulkReadP1 id params s
  | .bulkWriteP1 id params => Sys2Proof.Machine.execBulkWriteP1 id params s
  | .statusP1 id params => Sys2Proof.Machine.execStatusP1 id params s
  | .pingP2 id params => Sys2Proof.Machine.execPingP2 id params s
  | .readP2 id params => Sys2Proof.Machine.execReadP2 id params s
  | .writeP2 id params => Sys2Proof.Machine.execWriteP2 id params s
  | .regWriteP2 id params => Sys2Proof.Machine.execRegWriteP2 id params s
  | .actionP2 id params => Sys2Proof.Machine.execActionP2 id params s
  | .factoryResetP2 id params => Sys2Proof.Machine.execFactoryResetP2 id params s
  | .rebootP2 id params => Sys2Proof.Machine.execRebootP2 id params s
  | .syncReadP2 id params => Sys2Proof.Machine.execSyncReadP2 id params s
  | .syncWriteP2 id params => Sys2Proof.Machine.execSyncWriteP2 id params s
  | .bulkReadP2 id params => Sys2Proof.Machine.execBulkReadP2 id params s
  | .bulkWriteP2 id params => Sys2Proof.Machine.execBulkWriteP2 id params s
  | .statusP2 id params => Sys2Proof.Machine.execStatusP2 id params s
  | .startTx => Sys2Proof.Machine.execStartTx s
  | .startRx => Sys2Proof.Machine.execStartRx s
  | .startTxrx => Sys2Proof.Machine.execStartTxrx s
  | .startCollect => Sys2Proof.Machine.execStartCollect s

end Sys2Proof.Machine
end

