-- ==== Sys2Proof/Machine/Registers.lean ====
section
/-! DEFINITION. The host port: the register map (`10_state.md` R23), access rules (`20_memory.md` R62), reads (R63) and
writes (R64). The write to `CMD` is the START event and is not here. -/

namespace Sys2Proof.Machine

/-- The registers of `10_state.md` R23. -/
inductive Reg where
  | ctrl
  | status
  | cmd
  | reqHdr
  | reqRxlen
  | tLat
  | tByte
  | tSlack
  | result
  | resHdr
  | budget
  | elapsed
  | idcount
  | idmap (k : Nat)
  deriving DecidableEq, Repr

/-- The register at an offset; `none` for offsets not listed (`10_state.md` R23). -/
def regAt (addr : Nat) : Option Reg :=
  if addr = 0x00 then some .ctrl
  else if addr = 0x04 then some .status
  else if addr = 0x08 then some .cmd
  else if addr = 0x0C then some .reqHdr
  else if addr = 0x10 then some .reqRxlen
  else if addr = 0x14 then some .tLat
  else if addr = 0x18 then some .tByte
  else if addr = 0x1C then some .tSlack
  else if addr = 0x20 then some .result
  else if addr = 0x24 then some .resHdr
  else if addr = 0x28 then some .budget
  else if addr = 0x2C then some .elapsed
  else if addr = 0x30 then some .idcount
  else if 0x40 ≤ addr ∧ addr ≤ 0x5C ∧ addr % 4 = 0 then some (.idmap ((addr - 0x40) / 4))
  else none

/-- What a legal access reaches (`20_memory.md` R61, R62). -/
inductive Target where
  | reg (addr : Nat)
  | txp (i : Nat)
  | rxp (i : Nat)
  deriving DecidableEq, Repr

/-- The target of an access of `n` bytes at `addr`; `none` for an illegal access (`20_memory.md` R62): registers only
aligned and four bytes wide, buffers 1, 2 or 4 bytes at any offset inside the window, nothing beyond the map. -/
def accessTarget (addr n : Nat) : Option Target :=
  if addr < 0x10000 then
    if n = 4 ∧ addr % 4 = 0 then some (.reg addr) else none
  else if n = 1 ∨ n = 2 ∨ n = 4 then
    if addr < 0x20000 then
      if addr + n ≤ 0x20000 then some (.txp (addr - 0x10000)) else none
    else if addr < 0x30000 then
      if addr + n ≤ 0x30000 then some (.rxp (addr - 0x20000)) else none
    else none
  else none

/-- The value of `CTRL` (`10_state.md` R24). -/
def ctrlWord (s : State) : Word :=
  (0 : BitVec 30) ++ BitVec.ofBool s.irqEn ++ BitVec.ofBool (s.proto == .p2)

/-- The 32-bit value of a register, reserved bits as zero (`20_memory.md` R63). -/
def readReg (s : State) : Reg → Word
  | .ctrl => ctrlWord s
  | .status => statusWord s
  | .cmd => 0
  | .reqHdr => s.reqPlen ++ s.reqInstr ++ s.reqId
  | .reqRxlen => s.reqRxlen.setWidth 32
  | .tLat => s.tLat
  | .tByte => s.tByte.setWidth 32
  | .tSlack => s.tSlack
  | .result => (resultCode s.result).setWidth 32
  | .resHdr => s.resPlen ++ s.resErr ++ s.resId
  | .budget => s.budget
  | .elapsed => s.elapsed
  | .idcount => s.idcount.setWidth 32
  | .idmap k => s.idmap.extractLsb' (32 * k) 32

/-- The `n` bytes of a buffer from index `i` on (`20_memory.md` R63). -/
def bufferBytes (s : State) (base cap i n : Nat) : List Byte :=
  (List.range n).map (fun k => bufferByte s base cap (i + k) k)

/-- What `HostRead(addr, n)` returns (`20_memory.md` R62, R63). -/
def readValue (s : State) (addr n : Nat) : Word :=
  match accessTarget addr n with
  | some (.reg a) =>
    match regAt a with
    | some r => readReg s r
    | none => 0
  | some (.txp i) => BitVec.ofNat 32 (leNat (bufferBytes s txpBase (txpCap s.cfg) i n))
  | some (.rxp i) => BitVec.ofNat 32 (leNat (bufferBytes s rxpBase (rxpCap s.cfg) i n))
  | none => 0

/-- `HostRead(addr, n)`: the value is returned and no register or buffer changes (`20_memory.md` R63). The free values the
access may have taken are used up, so two reads need not agree (`10_state.md` R50). -/
def hostRead (addr n : Nat) (s : State) : State :=
  { s with rdata := readValue s addr n, free := s.free + n }

/-- Writing `v` to a register: the writable fields are stored, read-only registers ignore it (`20_memory.md` R64). -/
def writeReg (r : Reg) (v : Word) (s : State) : State :=
  match r with
  | .ctrl => { s with proto := if v.getLsbD 0 then .p2 else .p1, irqEn := v.getLsbD 1 }
  | .status => acknowledge v s
  | .reqHdr =>
    { s with reqId := v.extractLsb' 0 8, reqInstr := v.extractLsb' 8 8, reqPlen := v.extractLsb' 16 16 }
  | .reqRxlen => { s with reqRxlen := v.extractLsb' 0 16 }
  | .tLat => { s with tLat := v }
  | .tByte => { s with tByte := v.extractLsb' 0 16 }
  | .tSlack => { s with tSlack := v }
  | .cmd => s
  | .result => s
  | .resHdr => s
  | .budget => s
  | .elapsed => s
  | .idcount => s
  | .idmap _ => s

/-- Writing `bytes` to `TXP` from index `i` on, skipping indices at or beyond `TXPCAP` (`20_memory.md` R64). -/
def writeTxp (i : Nat) (bytes : List Byte) (s : State) : State :=
  { s with mem := s.mem.writeList (txpBase + i) (bytes.take (txpCap s.cfg - i)) }

/-- `HostWrite(addr, n, v)` to anything but `CMD` (`20_memory.md` R62, R64). -/
def hostWrite (addr n : Nat) (v : Word) (s : State) : State :=
  match accessTarget addr n with
  | some (.reg a) =>
    match regAt a with
    | some r => writeReg r v s
    | none => s
  | some (.txp i) => writeTxp i (leBytes n v.toNat) s
  | some (.rxp _) => s
  | none => s

end Sys2Proof.Machine
end

