-- ==== Sys2Proof/Machine/Transport.lean ====
section
/-! DEFINITION. The events of the transport and the time base: transmit phase (`43_sequencer.md` R212 to R214), receive loop
(R215 to R219) and timeout detector (R221 to R226). An event whose precondition does not hold does not happen
(`10_state.md` R45): it leaves the state as it is. -/

namespace Sys2Proof.Machine

/-- `TxAccept` (`43_sequencer.md` R212). -/
def txAccept (s : State) : State :=
  match s.phase, s.txq with
  | .tx, b :: rest =>
    let t := emit (.txByte b) { s with txq := rest }
    if rest ≠ [] then t
    else if s.curRx then { t with elapsed := 0, phase := .rx }
    else completeWith s.curId 0 [] t
  | _, _ => s

/-- `TxRefuse` (`43_sequencer.md` R213). -/
def txRefuse (s : State) : State :=
  match s.phase with
  | .tx => complete .txFail s
  | _ => s

/-- `CollectFrame(id, sv)` (`43_sequencer.md` R219). -/
def collectFrame (id : Byte) (sv : Option Status) (s : State) : State :=
  if sv.isSome ∧ addressableId id then recordId id s
  else { s with idmissSeen := true }

/-- A frame outside collect mode: accepted (`43_sequencer.md` R216) or discarded (R217). -/
def responseFrame (id : Byte) (sv : Option Status) (s : State) : State :=
  match sv with
  | some st => if id = s.curId then completeWith id st.err st.data s else { s with idmissSeen := true }
  | none => { s with idmissSeen := true }

/-- `RxByte(b)` (`43_sequencer.md` R215 to R219). -/
def rxByte (b : Byte) (s : State) : State :=
  match s.phase with
  | .rx =>
    match scan s.cfg s.curProto (s.rxbuf ++ [b]) with
    | .needMore k => { s with rxbuf := k }
    | .corrupt => { s with rxbuf := [], corruptSeen := true }
    | .frame id ie params rest =>
      let t := { s with rxbuf := rest }
      let sv := statusView s.cfg s.curProto ie params
      if s.curCollect then collectFrame id sv t else responseFrame id sv t
  | _ => s

/-- `Tick` (`43_sequencer.md` R225, R226). -/
def tick (s : State) : State :=
  match s.phase with
  | .rx =>
    let e := satTW (s.elapsed.toNat + 1)
    let t := { s with elapsed := e }
    if s.budget < e then
      if s.curCollect ∧ 0 < s.idcount.toNat then completeWith s.curId 0 [] t
      else complete .rxTimeout t
    else t
  | _ => s

end Sys2Proof.Machine
end

