-- ==== Sys2Proof/Machine/Events.lean ====
section
/-! DEFINITION. One event (`10_state.md` R45): what takes it, and how an instruction word is placed so that the next event
runs it. -/

namespace Sys2Proof.Machine

/-- The offset of `CMD` (`10_state.md` R23). -/
def cmdAddr : Nat := 0x08

/-- `Start(v)`: a legal value is one of the four START instructions, any other fails (`43_sequencer.md` R206). -/
def startEvent (v : Word) (s : State) : Outcome :=
  match decodeCmd v with
  | .ok i => exec i s
  | .error _ => startIllegal v s

/-- One event, already taken off the schedule (`10_state.md` R45). -/
def perform (e : Event) (s : State) : Outcome :=
  match e with
  | .reset => .next (resetEvent s)
  | .hostRead addr n => .next (hostRead addr n s)
  | .hostWrite addr n v =>
    if addr = cmdAddr ∧ n = 4 then startEvent v s else .next (hostWrite addr n v s)
  | .txAccept => .next (txAccept s)
  | .txRefuse => .next (txRefuse s)
  | .rxByte b => .next (rxByte b s)
  | .tick => .next (tick s)

/-- The next step: take the first event of the schedule; with none, nothing happens (`00_scope.md` R6). -/
def nextStep (s : State) : Outcome :=
  match s.events with
  | [] => .next s
  | e :: rest => perform e { s with events := rest }

/-- The host's `Start(v)` put at the head of the schedule. -/
def placeStart (v : Word) (s : State) : State := { s with events := .hostWrite cmdAddr 4 v :: s.events }

/-- A request put where a START reads it, and a `START TXRX` at the head of the schedule. -/
def placeRequest (r : Request) (s : State) : State :=
  placeStart 3
    { s with
      proto := r.proto
      reqId := r.id
      reqInstr := opcByte s.cfg.opc r.instr
      reqPlen := BitVec.ofNat 16 r.params.length
      mem := s.mem.writeList txpBase (r.params.take (txpCap s.cfg))
      cmd := 3 }

/-- An opcode-table word placed where the next step runs it (`30_encoding.md` R120): a `CMD` value as the next START, a
frame word as the request of the next `START TXRX`. -/
def placeWord (s : State) (nbits w : Nat) : State :=
  if nbits = 32 then placeStart (BitVec.ofNat 32 w) s
  else
    match decodeTableWord nbits w with
    | none => s
    | some i =>
      match i.request? with
      | none => s
      | some r => placeRequest r s

end Sys2Proof.Machine
end

