-- ==== Sys2Proof/Machine/Pseudo.lean ====
section
/-! DEFINITION. The pseudo-instructions of the host (`30_encoding.md` R117, `44_instructions.md` R275 to R283): the accesses
each expands to, up to its START, as events; and each whole, with its wait, its reads and what it returns, as a script that
host software plays against the machine. MPF depends on none of them. -/

namespace Sys2Proof.Machine

/-- `WR <REG>, <value>`: a 4-byte host write (`30_encoding.md` R116). -/
def wr (addr : Nat) (v : Word) : Event := .hostWrite addr 4 v

/-- `WRB TXP+i, <bytes>`: byte writes to `TXP` (`30_encoding.md` R116). -/
def wrb : Nat → List Byte → List Event
  | _, [] => []
  | i, b :: bs => .hostWrite (txpBase + i) 1 (b.setWidth 32) :: wrb (i + 1) bs

/-- `WR REQ_HDR, (plen << 16) | (b << 8) | id`. DESIGN CHOICE (log entry 22): a count above 65535 loses its high bits, as the
32-bit value does; the spec does not say what a wrapper does with so many parameters. -/
def wrReqHdr (plen : Nat) (b id : Byte) : Event := wr 0x0C (BitVec.ofNat 16 plen ++ b ++ id)

/-- `WR REQ_RXLEN, n`; the register keeps the low 16 bits (log entry 22). -/
def wrRxlen (n : Nat) : Event := wr 0x10 (BitVec.ofNat 32 n)

/-- `START <v>`. -/
def wrStart (v : Word) : Event := wr cmdAddr v

/-- `ACK`: `WR STATUS, 0x2` (`60_exceptions.md` R323). -/
def ack : Event := wr 0x04 2

/-- The expected response length of `n` data bytes (`44_instructions.md` R266, R275, R276): P2 counts the error byte of
`INSTR_THEN_ERR`. -/
def responseLen : Proto → Nat → Nat
  | .p1, n => n + 6
  | .p2, n => n + 11

/-- An address or a length operand: one byte in P1, two little-endian bytes in P2 (`44_instructions.md` R251).
DESIGN CHOICE (log entry 20): a value that does not fit (above 255 in P1, above 65535 in P2) keeps its low byte or bytes; R251
says that a P1 request can only name 0 to 255, not what a wrapper does with more. -/
def operand16 : Proto → Nat → List Byte
  | .p1, v => [lo8 v]
  | .p2, v => [lo8 v, hi8 v]

/-- The register writes of one request and its START. -/
def issue (c : Config) (i : WireInstr) (id : Byte) (params : List Byte) (rxlen : Nat) (v : Word) : List Event :=
  wrb 0 params ++ [wrReqHdr params.length (opcByte c.opc i) id, wrRxlen rxlen, wrStart v]

/-- `read(id, address, n)`, `read1`, `read2`, `read4` (`44_instructions.md` R275, R277). The zero-length test is on `n` itself,
before its operand is cut to its width (log entry 20). -/
def readExpansion (c : Config) (proto : Proto) (id : Byte) (address n : Nat) : Except CommResult (List Event) :=
  if n = 0 then .error .notAvailable
  else .ok (issue c .read id (operand16 proto address ++ operand16 proto n) (responseLen proto n) 3)

/-- `write(id, address, bytes)` and `regWrite(id, address, bytes)` (`44_instructions.md` R276, R277, R281). -/
def writeExpansion (c : Config) (proto : Proto) (i : WireInstr) (id : Byte) (address : Nat) (data : List Byte) :
    Except CommResult (List Event) :=
  if data = [] then .error .notAvailable
  else .ok (issue c i id (operand16 proto address ++ data) (responseLen proto 0) 3)

/-- `write1`, `write2`, `write4`: the data are the value's `n` low bytes, least significant first (R276, R278). -/
def writeValueExpansion (c : Config) (proto : Proto) (id : Byte) (address n value : Nat) :
    Except CommResult (List Event) :=
  writeExpansion c proto .write id address (leBytes n value)

/-- `regWriteTxOnly(id, address, bytes)`: the same writes, then `START TX` (`44_instructions.md` R281). DESIGN CHOICE
(log entry 21): no data bytes are refused as `regWrite` refuses them; R277 says it of the typed wrappers and names the generic
`read` and `write` only. -/
def regWriteTxOnlyExpansion (c : Config) (proto : Proto) (id : Byte) (address : Nat) (data : List Byte) :
    Except CommResult (List Event) :=
  if data = [] then .error .notAvailable
  else .ok (issue c .regWrite id (operand16 proto address ++ data) (responseLen proto 0) 1)

/-- `action(id)`: `WR REQ_HDR`, then `START TXRX` for a replying target, `START TX` otherwise; `REQ_RXLEN` is left as it is
(`44_instructions.md` R281). -/
def actionExpansion (c : Config) (id : Byte) (replies : Bool) : List Event :=
  [wrReqHdr 0 (opcByte c.opc .action) id, wrStart (if replies then 3 else 1)]

/-- `reboot(id)` (`44_instructions.md` R280). -/
def rebootExpansion (c : Config) (proto : Proto) (id : Byte) : List Event :=
  issue c .reboot id [] (responseLen proto 0) 3

/-- `factoryReset(id, option)`: the option byte travels in P2 only (`44_instructions.md` R280). -/
def factoryResetExpansion (c : Config) (proto : Proto) (id option : Byte) : List Event :=
  match proto with
  | .p1 => issue c .factoryReset id [] (responseLen proto 0) 3
  | .p2 => issue c .factoryReset id [option] (responseLen proto 0) 3

/-- `ping(id)`: a P1 ping status has 6 bytes, a P2 one 14 (`44_instructions.md` R279). -/
def pingExpansion (c : Config) (proto : Proto) (id : Byte) : List Event :=
  match proto with
  | .p1 => issue c .ping id [] 6 3
  | .p2 => issue c .ping id [] 14 3

/-- `broadcastPing()`: `rxlen` sets how long it lasts; on P1 its START completes with `NotAvailable` (`44_instructions.md` R279,
`43_sequencer.md` R207 (b)). -/
def broadcastPingExpansion (c : Config) (rxlen : Nat) : List Event := issue c .ping broadcastId [] rxlen 7

/-- The SyncWrite block: address, data length, then `[id, data]` per entry (`44_instructions.md` R261). DESIGN CHOICE (log
entry 24): an entry whose data are not exactly `dataLength` bytes stands in the block as given; R261 gives every tuple exactly that
many, and no rule says what the wrapper does otherwise. -/
def syncWriteBlock (proto : Proto) (address dataLength : Nat) (entries : List (Byte × List Byte)) : List Byte :=
  operand16 proto address ++ operand16 proto dataLength ++ (entries.map (fun e => e.1 :: e.2)).flatten

/-- The BulkWrite block: `[id, address, length, data]` per entry, two-byte fields (`44_instructions.md` R263). -/
def bulkWriteBlock (entries : List (Byte × Nat × List Byte)) : List Byte :=
  (entries.map (fun e => e.1 :: (operand16 .p2 e.2.1 ++ operand16 .p2 e.2.2.length ++ e.2.2))).flatten

/-- The SyncRead block: address, length, ids (`44_instructions.md` R260). -/
def syncReadBlock (proto : Proto) (address length : Nat) (ids : List Byte) : List Byte :=
  operand16 proto address ++ operand16 proto length ++ ids

/-- The BulkRead block: P1 a leading 0x00 and `[length, id, address]` per entry, P2 `[id, address, length]`
(`44_instructions.md` R262). -/
def bulkReadBlock (proto : Proto) (entries : List (Byte × Nat × Nat)) : List Byte :=
  match proto with
  | .p1 => 0x00 :: (entries.map (fun e => [lo8 e.2.2, e.1, lo8 e.2.1])).flatten
  | .p2 => (entries.map (fun e => e.1 :: (operand16 .p2 e.2.1 ++ operand16 .p2 e.2.2))).flatten

/-- A transmit-only group request to the broadcast id (`44_instructions.md` R282, R283). -/
def groupTx (c : Config) (i : WireInstr) (block : List Byte) : List Event :=
  wrb 0 block ++ [wrReqHdr block.length (opcByte c.opc i) broadcastId, wrStart 1]

/-- `syncWriteTxOnly`; an empty entry set is refused without touching MPF (`44_instructions.md` R282). DESIGN CHOICE (log
entry 23): a data length of 0, or an entry of no data, is transmitted; R277 names only `read` and `write`. -/
def syncWriteTxOnlyExpansion (c : Config) (proto : Proto) (address dataLength : Nat)
    (entries : List (Byte × List Byte)) : Except CommResult (List Event) :=
  if entries = [] then .error .notAvailable
  else .ok (groupTx c .syncWrite (syncWriteBlock proto address dataLength entries))

/-- `bulkWriteTxOnly`; an empty entry set is refused without touching MPF (`44_instructions.md` R282). DESIGN CHOICE (log
entry 23): an entry of no data is transmitted with length 0; R277 names only `read` and `write`. -/
def bulkWriteTxOnlyExpansion (c : Config) (entries : List (Byte × Nat × List Byte)) :
    Except CommResult (List Event) :=
  if entries = [] then .error .notAvailable
  else .ok (groupTx c .bulkWrite (bulkWriteBlock entries))

/-- `syncReadTx` (`44_instructions.md` R283). DESIGN CHOICE (log entry 23): a length of 0 and an empty id list are transmitted;
R277 names only `read` and `write`, and R282's refusal of an empty set is of the writes. -/
def syncReadTxExpansion (c : Config) (proto : Proto) (address length : Nat) (ids : List Byte) : List Event :=
  groupTx c .syncRead (syncReadBlock proto address length ids)

/-- `bulkReadTx` (`44_instructions.md` R283). DESIGN CHOICE (log entry 23): an entry of length 0 and an empty list are
transmitted; R277 names only `read` and `write`, and R282's refusal of an empty set is of the writes. -/
def bulkReadTxExpansion (c : Config) (proto : Proto) (entries : List (Byte × Nat × Nat)) : List Event :=
  groupTx c .bulkRead (bulkReadBlock proto entries)

/-- One harvest: the id the frame will carry, its expected length, `START RX` (`44_instructions.md` R283). -/
def harvestExpansion (id : Byte) (rxlen : Nat) : List Event := [wrReqHdr 0 0 id, wrRxlen rxlen, wrStart 2]

/-! ## Whole wrappers -/

/-- Host software: it returns, makes one access and goes on with the value read, or waits for `STATUS.DONE` and goes on
(`44_instructions.md` section 4, opening; `30_encoding.md` R116). -/
inductive Script (α : Type) where
  | ret (a : α)
  | access (e : Event) (k : Word → Script α)
  | wait (k : Script α)

/-- Whose turn it is: the host software's, or an event of another agent. -/
inductive Turn where
  | host
  | other (e : Event)
  deriving DecidableEq, Repr

/-- One turn of host software. `WAIT` is one read of `STATUS`, made again until `DONE` = 1; a host that has returned makes no
access. -/
def Script.turn {α : Type} (p : Script α) (s : State) : Option (Script α × State) :=
  match p with
  | .ret a => some (.ret a, s)
  | .access e k =>
    match perform e s with
    | .next t => some (k t.rdata, t)
    | _ => none
  | .wait k =>
    match perform (.hostRead 0x04 4) s with
    | .next t => some (if t.rdata.getLsbD 1 then k else .wait k, t)
    | _ => none

/-- Host software and the other agents in turns, in any order (`10_state.md` R45). -/
def play {α : Type} : List Turn → Script α → State → Option (Script α × State)
  | [], p, s => some (p, s)
  | .host :: ts, p, s =>
    match p.turn s with
    | some (q, t) => play ts q t
    | none => none
  | .other e :: ts, p, s =>
    match perform e s with
    | .next t => play ts p t
    | _ => none

/-- `RD <REG>`: a 4-byte host read (`30_encoding.md` R116). -/
def rd (addr : Nat) : Event := .hostRead addr 4

/-- The accesses of an expansion, one after the other. -/
def issueAll {α : Type} : List Event → Script α → Script α
  | [], k => k
  | e :: es, k => .access e (fun _ => issueAll es k)

/-- What a wrapper returns beside its codes. -/
inductive Payload where
  | nothing
  | number (v : Nat)
  | bytes (l : List Byte)
  | ids (l : List Nat)
  deriving DecidableEq, Repr

/-- What a wrapper returns: `RESULT.CODE`, the hardware error byte where it reads one, and the rest. -/
structure WrapperResult where
  code : BitVec 4
  err : Option Byte
  payload : Payload
  deriving DecidableEq, Repr

/-- The refusal of a wrapper that touches no register (`44_instructions.md` R277, R282). -/
def refusal {α : Type} (r : CommResult) (k : WrapperResult → Script α) : Script α := k ⟨resultCode r, none, .nothing⟩

/-- `RESULT.CODE` of a value read from `RESULT`. -/
def codeField (c : Word) : BitVec 4 := c.extractLsb' 0 4

/-- `RES_HDR.ERR` of a value read from `RES_HDR` (`10_state.md` R31). -/
def errField (h : Word) : Byte := h.extractLsb' 8 8

/-- `RES_HDR.PLEN` of a value read from `RES_HDR` (`10_state.md` R31). -/
def plenField (h : Word) : Nat := (h.extractLsb' 16 16).toNat

/-- `WAIT; c <- RD RESULT`. -/
def awaitCode {α : Type} (k : BitVec 4 → Script α) : Script α := .wait (.access (rd 0x20) fun c => k (codeField c))

/-- `WAIT; c <- RD RESULT; h <- RD RES_HDR`. -/
def awaitResult {α : Type} (k : BitVec 4 → Word → Script α) : Script α :=
  awaitCode fun c => .access (rd 0x24) fun h => k c h

/-- `WAIT; c <- RD RESULT; h <- RD RES_HDR; ACK` (`44_instructions.md` R275, R276, R279). -/
def awaitAcknowledged {α : Type} (k : BitVec 4 → Word → Script α) : Script α :=
  awaitResult fun c h => .access ack fun _ => k c h

/-- The bytes `RXP[i..i+n)`, one read each. -/
def readRxp {α : Type} : Nat → Nat → (List Byte → Script α) → Script α
  | _, 0, k => k []
  | i, n + 1, k => .access (.hostRead (rxpBase + i) 1) fun b => readRxp (i + 1) n fun bs => k (b.setWidth 8 :: bs)

/-- The end of a wrapper that returns `(c, h.ERR)` after `ACK` (`44_instructions.md` R276). -/
def plainFinish : Script WrapperResult := awaitAcknowledged fun c h => .ret ⟨c, some (errField h), .nothing⟩

/-- The end of a wrapper that returns `(RESULT, RES_HDR.ERR)` and whose rule lists no `ACK` (`44_instructions.md` R280, R281;
log entry 14). -/
def plainFinishUnacknowledged : Script WrapperResult := awaitResult fun c h => .ret ⟨c, some (errField h), .nothing⟩

/-- The end of `read`: where the response holds at least `n` data bytes, one read of `n` = 1, 2 or 4 bytes gives the value and
any other `n` gives the bytes `RXP[0..n)`; a shorter response gives none (`44_instructions.md` R275, R278). -/
def readFinish (n : Nat) : Script WrapperResult :=
  awaitAcknowledged fun c h =>
    if c = resultCode .success ∧ n ≤ plenField h then
      if n = 1 ∨ n = 2 ∨ n = 4 then
        .access (.hostRead rxpBase n) fun v => .ret ⟨c, some (errField h), .number v.toNat⟩
      else readRxp 0 n fun bs => .ret ⟨c, some (errField h), .bytes bs⟩
    else .ret ⟨c, some (errField h), .nothing⟩

/-- An expansion and what follows its START, or the refusal. -/
def runExpansion (x : Except CommResult (List Event)) (finish : Script WrapperResult) : Script WrapperResult :=
  match x with
  | .error r => refusal r .ret
  | .ok es => issueAll es finish

/-- `read(id, address, n)`, `read1`, `read2`, `read4` (`44_instructions.md` R275, R277). -/
def readScript (c : Config) (proto : Proto) (id : Byte) (address n : Nat) : Script WrapperResult :=
  runExpansion (readExpansion c proto id address n) (readFinish n)

/-- `write(id, address, bytes)` and, with `RegWrite`, `regWrite` (`44_instructions.md` R276, R277, R281). -/
def writeScript (c : Config) (proto : Proto) (i : WireInstr) (id : Byte) (address : Nat) (data : List Byte) :
    Script WrapperResult :=
  runExpansion (writeExpansion c proto i id address data) plainFinish

/-- `write1`, `write2`, `write4` (`44_instructions.md` R276, R278). -/
def writeValueScript (c : Config) (proto : Proto) (id : Byte) (address n value : Nat) : Script WrapperResult :=
  runExpansion (writeValueExpansion c proto id address n value) plainFinish

/-- `regWriteTxOnly(id, address, bytes)` (`44_instructions.md` R281). -/
def regWriteTxOnlyScript (c : Config) (proto : Proto) (id : Byte) (address : Nat) (data : List Byte) :
    Script WrapperResult :=
  runExpansion (regWriteTxOnlyExpansion c proto id address data) plainFinishUnacknowledged

/-- `action(id)` (`44_instructions.md` R281). -/
def actionScript (c : Config) (id : Byte) (replies : Bool) : Script WrapperResult :=
  issueAll (actionExpansion c id replies) plainFinishUnacknowledged

/-- `reboot(id)` (`44_instructions.md` R280). -/
def rebootScript (c : Config) (proto : Proto) (id : Byte) : Script WrapperResult :=
  issueAll (rebootExpansion c proto id) plainFinishUnacknowledged

/-- `factoryReset(id, option)` (`44_instructions.md` R280). -/
def factoryResetScript (c : Config) (proto : Proto) (id option : Byte) : Script WrapperResult :=
  issueAll (factoryResetExpansion c proto id option) plainFinishUnacknowledged

/-- `PING_MIN_PARAMS(proto)` (`00_scope.md` R7). -/
def pingMinParams (c : Config) : Proto → Nat
  | .p1 => c.pingMinParams1
  | .p2 => c.pingMinParams2

/-- `ping(id)`: the model number in P2, only from a status frame of at least minimal length (`44_instructions.md` R279). -/
def pingScript (c : Config) (proto : Proto) (id : Byte) : Script WrapperResult :=
  issueAll (pingExpansion c proto id) <|
    awaitAcknowledged fun code h =>
      if code = resultCode .success ∧ pingMinParams c proto ≤ plenField h ∧ proto = .p2 then
        .access (.hostRead rxpBase 2) fun v => .ret ⟨code, some (errField h), .number v.toNat⟩
      else .ret ⟨code, some (errField h), .nothing⟩

/-- `m[k] <- RD IDMAPk` for `n` words from word `k` on. -/
def readIdMap {α : Type} : Nat → Nat → (List Word → Script α) → Script α
  | _, 0, f => f []
  | k, n + 1, f => .access (rd (0x40 + 4 * k)) fun w => readIdMap (k + 1) n fun ws => f (w :: ws)

/-- The ids of 0 to 252 whose bit is set, ascending (`44_instructions.md` R279). -/
def collectedIds (m : List Word) : List Nat := (List.range 253).filter (fun i => (m.getD (i / 32) 0).getLsbD (i % 32))

/-- `broadcastPing()` (`44_instructions.md` R279): `IDCOUNT` is read and not returned. -/
def broadcastPingScript (c : Config) (rxlen : Nat) : Script WrapperResult :=
  issueAll (broadcastPingExpansion c rxlen) <|
    awaitCode fun code =>
      .access (rd 0x30) fun _ =>
        readIdMap 0 8 fun m => .access ack fun _ => .ret ⟨code, none, .ids (collectedIds m)⟩

/-- The end of a group write: `RESULT` only (`44_instructions.md` R282). -/
def codeFinish : Script WrapperResult := awaitCode fun c => .ret ⟨c, none, .nothing⟩

/-- `syncWriteTxOnly` (`44_instructions.md` R282). -/
def syncWriteTxOnlyScript (c : Config) (proto : Proto) (address dataLength : Nat) (entries : List (Byte × List Byte)) :
    Script WrapperResult :=
  runExpansion (syncWriteTxOnlyExpansion c proto address dataLength entries) codeFinish

/-- `bulkWriteTxOnly` (`44_instructions.md` R282). -/
def bulkWriteTxOnlyScript (c : Config) (entries : List (Byte × Nat × List Byte)) : Script WrapperResult :=
  runExpansion (bulkWriteTxOnlyExpansion c entries) codeFinish

/-- What one harvest reads: `RESULT`, `RES_HDR` and, of a response, `RXP[0..PLEN)`. -/
structure HarvestResult where
  code : BitVec 4
  id : Byte
  err : Byte
  data : List Byte
  deriving DecidableEq, Repr

/-- One harvest (`44_instructions.md` R283); `RXP` is read only after `Success` (`60_exceptions.md` R322). -/
def harvestOne {α : Type} (id : Byte) (rxlen : Nat) (k : HarvestResult → Script α) : Script α :=
  issueAll (harvestExpansion id rxlen) <|
    awaitResult fun c h =>
      readRxp 0 (if c = resultCode .success then plenField h else 0) fun bs =>
        k ⟨c, h.extractLsb' 0 8, errField h, bs⟩

/-- The harvests of the frames expected, (id, expected length) each, in list order (`44_instructions.md` R283). -/
def harvestAll {α : Type} : List (Byte × Nat) → (List HarvestResult → Script α) → Script α
  | [], k => k []
  | (id, rxlen) :: frames, k => harvestOne id rxlen fun r => harvestAll frames fun rs => k (r :: rs)

/-- What a group read returns: `RESULT` of its transmission and what each harvest read. -/
structure GroupResult where
  code : BitVec 4
  harvests : List HarvestResult
  deriving DecidableEq, Repr

/-- A transmit-only group request and, if it ends with `Success`, its harvests (`44_instructions.md` R283). -/
def groupReadScript (tx : List Event) (frames : List (Byte × Nat)) : Script GroupResult :=
  issueAll tx <|
    awaitCode fun c =>
      if c = resultCode .success then harvestAll frames fun rs => .ret ⟨c, rs⟩ else .ret ⟨c, []⟩

/-- The frames of a SyncRead that every listed device answers by itself (`44_instructions.md` R260, R283). -/
def syncReadFrames (proto : Proto) (length : Nat) (ids : List Byte) : List (Byte × Nat) :=
  ids.map (fun id => (id, responseLen proto length))

/-- The frames of a BulkRead that every listed device answers by itself (`44_instructions.md` R262, R283). -/
def bulkReadFrames (proto : Proto) (entries : List (Byte × Nat × Nat)) : List (Byte × Nat) :=
  entries.map (fun e => (e.1, responseLen proto e.2.2))

/-- `syncReadTx` and the harvest of `frames`: one per device, or the one combined frame (`44_instructions.md` R283). -/
def syncReadScript (c : Config) (proto : Proto) (address length : Nat) (ids : List Byte) (frames : List (Byte × Nat)) :
    Script GroupResult :=
  groupReadScript (syncReadTxExpansion c proto address length ids) frames

/-- `bulkReadTx` and the harvest of `frames`: one per device, or the one combined frame (`44_instructions.md` R283). -/
def bulkReadScript (c : Config) (proto : Proto) (entries : List (Byte × Nat × Nat)) (frames : List (Byte × Nat)) :
    Script GroupResult :=
  groupReadScript (bulkReadTxExpansion c proto entries) frames

/-- What the host writes before the first START of a session: `CTRL` and the three `T_` registers
(`70_reset_and_hazards.md` R345). -/
def sessionExpansion (proto : Proto) (irqEn : Bool) (tLat : Word) (tByte : Half) (tSlack : Word) : List Event :=
  [wr 0x00 ((0 : BitVec 30) ++ BitVec.ofBool irqEn ++ BitVec.ofBool (proto == .p2)), wr 0x14 tLat,
    wr 0x18 (tByte.setWidth 32), wr 0x1C tSlack]

end Sys2Proof.Machine
end

