-- ==== Sys2Proof/Safety.lean ====
section
/-! DEFINITION. What holds of a safe state: the invariants of `10_state.md` R37 and those the other rules imply, each kept by
every step. -/

namespace Sys2Proof.Machine

/-- The buffer memory is in canonical form and lists only bytes that exist: `TXP[0..TXPCAP)`, `RXP[0..RXPCAP)`
(`10_state.md` R33, R34). -/
def MemoryInv (s : State) : Prop :=
  s.mem.wf ∧
    ∀ c ∈ s.mem, (txpBase ≤ c.1 ∧ c.1 < txpBase + txpCap s.cfg) ∨ (rxpBase ≤ c.1 ∧ c.1 < rxpBase + rxpCap s.cfg)

/-- The queues per phase (`10_state.md` R36, R37): `rxbuf` is a buffer the scanner is waiting on (`42_decode.md` R178). -/
def QueueInv (s : State) : Prop :=
  configValid s.cfg ∧
    match s.phase with
    | .idle => s.txq = [] ∧ s.rxbuf = []
    | .tx => s.txq ≠ [] ∧ s.txq.length ≤ txMax s.cfg s.curProto ∧ s.rxbuf = []
    | .rx =>
      s.txq = [] ∧ s.rxbuf.length < rxMax s.cfg s.curProto ∧
        scan s.cfg s.curProto s.rxbuf = .needMore s.rxbuf

/-- The latched request of a busy MPF (`43_sequencer.md` R205, R207, R209): its target is legal, collect mode is a P2 request
to the broadcast id, and a response is awaited only from an addressable device or in collect mode. -/
def CurrentInv (s : State) : Prop :=
  s.phase ≠ .idle →
    reservedId s.curId = false ∧
      (s.curCollect = true → s.curProto = .p2 ∧ s.curId = broadcastId ∧ s.curRx = true) ∧
      (s.phase = .rx → s.curRx = true) ∧
      (s.curRx = true → s.curCollect = false → addressableId s.curId = true)

/-- The id map and its count (`10_state.md` R35): the bits of 253, 254 and 255 are 0 and `IDCOUNT` counts the rest. -/
def IdMapInv (s : State) : Prop :=
  s.idmap.getLsbD 253 = false ∧ s.idmap.getLsbD 254 = false ∧ s.idmap.getLsbD 255 = false ∧
    s.idcount.toNat = idCountOf s.idmap

/-- The result register (`93_implementation_defined.md` U14, `60_exceptions.md` R300, R309): only the codes MPF delivers, `DONE`
only with a result, and never while a request is in flight. -/
def ResultInv (s : State) : Prop :=
  s.result ∈ [CommResult.success, .txFail, .txError, .rxTimeout, .notAvailable, .none] ∧
    (s.done = true → s.result ≠ .none ∧ s.phase = .idle)

/-- The timer (`43_sequencer.md` R225): a receive phase goes on only within its budget. -/
def TimerInv (s : State) : Prop := s.phase = .rx → s.elapsed ≤ s.budget

/-- The data of the last success (`10_state.md` R31, R34): they fit `RXP` and every one of them has been written. -/
def DataInv (s : State) : Prop :=
  configValid s.cfg ∧ s.resPlen.toNat ≤ rxpCap s.cfg ∧
    ∀ i, i < s.resPlen.toNat → (s.mem.read? (rxpBase + i)).isSome

/-- All of them. -/
structure Inv (s : State) : Prop where
  memory : MemoryInv s
  queues : QueueInv s
  current : CurrentInv s
  idMap : IdMapInv s
  result : ResultInv s
  timer : TimerInv s
  data : DataInv s

/-- `k` steps, stopping where one does not answer a next state. -/
def run : Nat → State → Outcome
  | 0, s => .next s
  | k + 1, s =>
    match step s with
    | .next t => run k t
    | .fault r => .fault r
    | .refused r => .refused r

/-- What a START that is no collect START has written once it passes the command and target checks: the three flags cleared
and the request latched (`43_sequencer.md` R205, R221). -/
def latchedRequest (s : State) (proto : Proto) (id : Byte) : State :=
  { s with
    done := false
    corruptSeen := false
    idmissSeen := false
    curProto := proto
    curId := id
    curCollect := false
    budget := satTW (s.tLat.toNat + s.tByte.toNat * s.reqRxlen.toNat + s.tSlack.toNat)
    rxbuf := [] }

end Sys2Proof.Machine
end

