-- ==== Sys2Proof/Certificates/Slice0/Obligations.lean ====
section
/-! DEFINITION. The statements for the provers, from the numbered rules of spec/. -/

open Sys2Proof Sys2Proof.Machine

/-- `41_encode.md` R160: the scanner recovers the tuple of every frame within the length limit, in both protocols. -/
def Obligations.ScanRecoversEveryFrame : Prop :=
  ∀ (c : Config) (id ie : Byte) (p : List Byte), configValid c → id ≠ 253 → id ≠ 255 →
    (p.length + 6 ≤ c.rxMax1 → scan c .p1 (frameP1 id ie p) = .frame id ie p []) ∧
    ((stuff p).length + 10 ≤ c.rxMax2 → scan c .p2 (frameP2 c id ie p) = .frame id ie p [])

/-- `30_encoding.md` R104, R114, `41_encode.md` R160: decoding the encoding of a well-formed instruction, of every one of the 28
constructors, gives the instruction back with every operand. -/
def Obligations.DecodeEncodeEveryInstruction : Prop :=
  ∀ (c : Config) (i : Instr), configValid c → i.wellFormed c = true → decode c i.format (encode c i) = .ok i

/-- `40_integrity.md` R144. -/
def Obligations.UnstuffInvertsStuff : Prop :=
  (∀ p : List Byte, unstuff (stuff p) = p) ∧
  (∀ w : List Byte, stuff (unstuff w) = w ↔
    ∀ i : Nat, [0xFF, 0xFF, 0xFD] <+: w.drop i → w[i + 3]? = some 0xFD)

/-- `40_integrity.md` R142 (a) and (b): how long stuffed parameters are, and that they hold no header marker. -/
def Obligations.StuffedParametersHoldNoHeader : Prop :=
  ∀ p : List Byte,
    (let k := (List.range p.length).countP
        (fun i => decide (2 ≤ i ∧ p[i - 2]? = some 0xFF ∧ p[i - 1]? = some 0xFF ∧ p[i]? = some 0xFD));
      (stuff p).length = p.length + k ∧ k ≤ p.length / 3) ∧
    (∀ i : Nat, [0xFF, 0xFF, 0xFD] <+: (stuff p).drop i → (stuff p)[i + 3]? = some 0xFD) ∧
    ¬ [0xFF, 0xFF, 0xFD, 0x00] <:+: stuff p

/-- `41_encode.md` R152: a P1 frame passes its checksum test, starts with the marker and has a consistent length field. -/
def Obligations.FrameP1IsConsistent : Prop :=
  ∀ (id ie : Byte) (p : List Byte), p.length ≤ 253 →
    check1 (frameP1 id ie p) = true ∧
    [0xFF, 0xFF] <+: frameP1 id ie p ∧
    (byteAt (frameP1 id ie p) 3).toNat = p.length + 2 ∧
    (frameP1 id ie p).length = (byteAt (frameP1 id ie p) 3).toNat + 4

/-- `41_encode.md` R155: a P2 frame passes its CRC test, starts with the marker, holds no marker in its parameter bytes and
has a consistent length field. -/
def Obligations.FrameP2IsConsistent : Prop :=
  ∀ (c : Config) (id ie : Byte) (p : List Byte), (stuff p).length ≤ 65532 →
    check2 c (frameP2 c id ie p) = true ∧
    [0xFF, 0xFF, 0xFD, 0x00] <+: frameP2 c id ie p ∧
    ¬ [0xFF, 0xFF, 0xFD, 0x00] <:+: slice 8 ((frameP2 c id ie p).length - 2) (frameP2 c id ie p) ∧
    (byteAt (frameP2 c id ie p) 5).toNat + 256 * (byteAt (frameP2 c id ie p) 6).toNat =
      (frameP2 c id ie p).length - 7

/-- `40_integrity.md` R133: the checksum ignores order, detects every single changed bit of the covered bytes and of itself,
and lets two changes cancel. -/
def Obligations.ChecksumLaws : Prop :=
  (∀ l m : List Byte, l.Perm m → checksum8 l = checksum8 m) ∧
  (∀ (f : List Byte) (i k : Nat), check1 f = true → 2 ≤ i → i < f.length → k < 8 →
    check1 (f.set i (byteAt f i ^^^ (1#8 <<< k))) = false) ∧
  (∃ l m : List Byte, l.length = m.length ∧ ¬ l.Perm m ∧ checksum8 l = checksum8 m)

/-- `40_integrity.md` R138: the CRC is incremental, affine over XOR, and depends on the order of the bytes. -/
def Obligations.CrcLaws : Prop :=
  (∀ (c : Config) (l m : List Byte), crc16 c (l ++ m) = crcFrom c.crcPoly (crc16 c l) m) ∧
  (∀ (c : Config) (a b : List Byte), a.length = b.length →
    crc16 c a ^^^ crc16 c b = crcFrom c.crcPoly 0 (List.zipWith (· ^^^ ·) a b)) ∧
  (∃ l m : List Byte, l.Perm m ∧ crc16 Config.default l ≠ crc16 Config.default m)

/-- `40_integrity.md` R136: the table form of the per-byte step, and so of the whole CRC, agrees with the bitwise one. -/
def Obligations.CrcTableFormAgrees : Prop :=
  (∀ (poly c : Half) (b : Byte), crcByteTable poly c b = crcByte poly c b) ∧
  (∀ (c : Config) (l : List Byte), crc16Table c l = crc16 c l)

/-- `40_integrity.md` R139: with bit 0 of `CRC_POLY` set, changing exactly one bit anywhere in a frame that passes the CRC test
makes the test fail. -/
def Obligations.CrcDetectsEverySingleBit : Prop :=
  ∀ (c : Config) (f : List Byte) (i k : Nat), c.crcPoly.getLsbD 0 = true → check2 c f = true → 2 ≤ f.length →
    i < f.length → k < 8 → check2 c (f.set i (byteAt f i ^^^ (1#8 <<< k))) = false

/-- `42_decode.md` R183, first three rows: one changed bit in the id, the slot byte, a parameter byte or the trailer of a
valid frame alone in the buffer is `Corrupt`. -/
def Obligations.FlippedFrameIsCorrupt : Prop :=
  ∀ (c : Config) (proto : Proto) (id ie : Byte) (p : List Byte) (i k : Nat), configValid c →
    id ≠ 253 → id ≠ 255 → frameLength proto p ≤ rxMax c proto →
    i < (frame c proto id ie p).length → k < 8 → (i = idxId proto ∨ idxSlot proto ≤ i) →
    scan c proto ((frame c proto id ie p).set i (byteAt (frame c proto id ie p) i ^^^ (1#8 <<< k))) = .corrupt

/-- `42_decode.md` R178: what the scanner keeps fits the buffer, is a suffix, is a fixed point, and starts with the marker
where one was found. -/
def Obligations.ScanKeepsBufferWithinLimit : Prop :=
  ∀ (c : Config) (proto : Proto) (buf keep : List Byte), configValid c → scan c proto buf = .needMore keep →
      keep.length < rxMax c proto ∧ keep <:+ buf ∧ scan c proto keep = .needMore keep ∧
      (findHeader proto buf ≠ none → headerMark proto <+: keep) ∧
      ∀ b : Byte, (keep ++ [b]).length ≤ rxMax c proto

/-- `42_decode.md` R179: one byte after a waiting buffer gives a shorter wait, `Corrupt`, or a frame with nothing left over. -/
def Obligations.ScanOneByteAtATime : Prop :=
  ∀ (c : Config) (proto : Proto) (k : List Byte) (b : Byte), configValid c → scan c proto k = .needMore k →
    (∃ k', scan c proto (k ++ [b]) = .needMore k' ∧ k' <:+ k ++ [b]) ∨
    scan c proto (k ++ [b]) = .corrupt ∨
    (∃ id ie params, scan c proto (k ++ [b]) = .frame id ie params [])

/-- `41_encode.md` R159 (e): a frame the request encoder answers is within `TXMAX`, carries the id and the instruction byte,
and satisfies the length accounting and the integrity test of its protocol. -/
def Obligations.EncodedRequestIsALegalFrame : Prop :=
  ∀ (c : Config) (proto : Proto) (id b : Byte) (p f : List Byte), configValid c →
    encodeReq c proto id b p = .frame f →
      f.length ≤ txMax c proto ∧ headerMark proto <+: f ∧ byteAt f (idxId proto) = id ∧
      byteAt f (idxSlot proto) = b ∧ lenMin proto ≤ lenOf proto f ∧
      f.length = lenOf proto f + lenOverhead proto ∧ integrityOk c proto f = true

/-- Words written out from `30_encoding.md` R91, R92, R104 and `43_sequencer.md` R206 decode to the instructions they stand
for (the frames are those of R119, R253, R254 and R259). That a `CMD` value is decoded from four little-endian bytes is the
model's choice (log entry 11). -/
def Obligations.WrittenWordsDecode : Prop :=
  decode Config.default (.frame .p1) [0xFF, 0xFF, 0x01, 0x04, 0x02, 0x24, 0x01, 0xD3] = .ok (.readP1 1 [0x24, 0x01]) ∧
  decode Config.default (.frame .p1) [0xFF, 0xFF, 0x01, 0x02, 0x01, 0xFB] = .ok (.pingP1 1 []) ∧
  decode Config.default (.frame .p2) [0xFF, 0xFF, 0xFD, 0x00, 0x01, 0x03, 0x00, 0x08, 0x2F, 0x4E] =
    .ok (.rebootP2 1 []) ∧
  decode Config.default .cmd [0x03, 0x00, 0x00, 0x00] = .ok .startTxrx

/-- `43_sequencer.md` R204: while a request is in flight a START of any kind, legal or not, sets `BUSY_REJECT` and changes
nothing else. -/
def Obligations.StartWhileBusyIsPortBusy : Prop :=
  (∀ (i : Instr) (s : State), s.phase ≠ .idle → exec i s = .next { s with busyReject := true }) ∧
  (∀ (s : State) (v : Word) (es : List Event), s.events = .hostWrite 0x08 4 v :: es → s.phase ≠ .idle →
    step s = .next { s with events := es, busyReject := true })

/-- `60_exceptions.md` R315: which check decides a START, in order, what its result is, and whether the request is latched and
a flush emitted before it. -/
def Obligations.StartOutcomeFollowsCheckOrder : Prop :=
  ∀ (s : State) (v : Word) (es : List Event), s.events = .hostWrite 0x08 4 v :: es →
    ∃ t, step s = .next t ∧
      (let i := instrOf s.cfg.opc s.reqInstr
       let kept : Prop := t.curProto = s.curProto ∧ t.curId = s.curId ∧ t.curCollect = s.curCollect ∧ t.budget = s.budget
       let latched : Prop :=
         t.curProto = s.proto ∧ t.curId = s.reqId ∧ t.curCollect = decide (v = 7) ∧
           t.budget.toNat = min (s.tLat.toNat + s.tByte.toNat * s.reqRxlen.toNat + s.tSlack.toNat) (2 ^ 32 - 1)
       let refused : Prop := kept ∧ t.result = .notAvailable ∧ t.done = true ∧ t.phase = .idle ∧ t.out = s.out
       let failed (code : CommResult) : Prop :=
         latched ∧ t.result = code ∧ t.done = true ∧ t.phase = .idle ∧ t.out = s.out ++ [.flush]
       let accepted (phase : Phase) (o : List Output) : Prop :=
         latched ∧ t.result = s.result ∧ t.done = false ∧ t.phase = phase ∧ t.out = o
       if s.phase ≠ .idle then t = { s with events := es, busyReject := true }
       else if ¬ (v = 1 ∨ v = 2 ∨ v = 3 ∨ v = 7) then refused
       else if s.reqId = 253 ∨ s.reqId = 255 then refused
       else if v = 7 ∧ ¬ (s.proto = .p2 ∧ s.reqId = 254 ∧ i = some .ping) then refused
       else if (v = 1 ∨ v = 3) ∧ s.reqId = 254 ∧ (i = some .ping ∨ i = some .read) then refused
       else if v = 2 ∧ s.reqId = 254 then refused
       else if v = 2 then accepted .rx s.out
       else if i = none then failed .notAvailable
       else if i = some .statusResponse ∨
           (s.proto = .p1 ∧ (i = some .reboot ∨ i = some .syncRead ∨ i = some .bulkWrite)) then
         failed .notAvailable
       else if frameLength s.proto (requestParams s) > txMax s.cfg s.proto then failed .txError
       else accepted .tx (s.out ++ [.flush]))

/-- `43_sequencer.md` R206, R207 (a) to (d): a START that fails a command or target check, from the registers or carrying any
wire instruction, changes the result, the flags and the two queues and nothing else of MPF; nothing is flushed, latched or
transmitted. -/
def Obligations.StartsRefusedBeforeTheLatch : Prop :=
  (∀ (s : State) (v : Word) (es : List Event), s.events = .hostWrite 0x08 4 v :: es → s.phase = .idle →
    (¬ (v = 1 ∨ v = 2 ∨ v = 3 ∨ v = 7) ∨ s.reqId = 253 ∨ s.reqId = 255 ∨
      (v = 7 ∧ ¬ (s.proto = .p2 ∧ s.reqId = 254 ∧ instrOf s.cfg.opc s.reqInstr = some .ping)) ∨
      ((v = 1 ∨ v = 3) ∧ s.reqId = 254 ∧
        (instrOf s.cfg.opc s.reqInstr = some .ping ∨ instrOf s.cfg.opc s.reqInstr = some .read)) ∨
      (v = 2 ∧ s.reqId = 254)) →
    ∃ t, step s = .next t ∧
      t = { s with
        done := true
        corruptSeen := false
        idmissSeen := false
        result := .notAvailable
        txq := []
        rxbuf := []
        events := es
        cmd := t.cmd
        free := t.free }) ∧
  (∀ (s : State) (proto : Proto) (i : WireInstr) (id : Byte) (params : List Byte), configValid s.cfg → s.phase = .idle →
    (¬ (s.cmd = 1 ∨ s.cmd = 2 ∨ s.cmd = 3 ∨ s.cmd = 7) ∨ id = 253 ∨ id = 255 ∨
      (s.cmd = 7 ∧ ¬ (proto = .p2 ∧ id = 254 ∧ i = .ping)) ∨
      ((s.cmd = 1 ∨ s.cmd = 3) ∧ id = 254 ∧ (i = .ping ∨ i = .read)) ∨
      (s.cmd = 2 ∧ id = 254)) →
    exec (Instr.ofRequest proto i id params) s =
      .next { s with
        done := true
        corruptSeen := false
        idmissSeen := false
        result := .notAvailable
        txq := []
        rxbuf := [] })

/-- `44_instructions.md` R252 to R254: Ping and Read to an addressable device, by `START TX` (1) or `START TXRX` (3), queue
their frame after a flush; a response is awaited with `TXRX`. -/
def Obligations.PingAndReadStartTransmission : Prop :=
  ∀ (proto : Proto) (i : WireInstr) (mk : Byte → List Byte → Instr),
    (proto, i, mk) ∈ [(Proto.p1, WireInstr.ping, Instr.pingP1), (.p1, .read, .readP1), (.p2, .ping, .pingP2),
      (.p2, .read, .readP2)] →
    ∀ (s : State) (id : Byte) (params : List Byte), configValid s.cfg → s.phase = .idle → (s.cmd = 1 ∨ s.cmd = 3) →
      id.toNat ≤ 252 → frameLength proto params ≤ txMax s.cfg proto →
      exec (mk id params) s =
        .next { latchedRequest s proto id with
          out := s.out ++ [.flush]
          txq := frame s.cfg proto id (opcByte s.cfg.opc i) params
          curRx := s.cmd == 3
          phase := .tx }

/-- `44_instructions.md` R252, R255 to R260, R262: the instructions that answer only an addressed device are transmitted to
any device and to the broadcast id; a response is awaited with `TXRX` and not from the broadcast id. -/
def Obligations.AnsweredRequestsStartTransmission : Prop :=
  ∀ (proto : Proto) (i : WireInstr) (mk : Byte → List Byte → Instr),
    (proto, i, mk) ∈ [(Proto.p1, WireInstr.write, Instr.writeP1), (.p1, .regWrite, .regWriteP1),
      (.p1, .action, .actionP1), (.p1, .factoryReset, .factoryResetP1), (.p1, .bulkRead, .bulkReadP1),
      (.p2, .write, .writeP2), (.p2, .regWrite, .regWriteP2), (.p2, .action, .actionP2),
      (.p2, .factoryReset, .factoryResetP2), (.p2, .reboot, .rebootP2), (.p2, .syncRead, .syncReadP2),
      (.p2, .bulkRead, .bulkReadP2)] →
    ∀ (s : State) (id : Byte) (params : List Byte), configValid s.cfg → s.phase = .idle → (s.cmd = 1 ∨ s.cmd = 3) →
      (id.toNat ≤ 252 ∨ id = 254) → frameLength proto params ≤ txMax s.cfg proto →
      exec (mk id params) s =
        .next { latchedRequest s proto id with
          out := s.out ++ [.flush]
          txq := frame s.cfg proto id (opcByte s.cfg.opc i) params
          curRx := s.cmd == 3 && id != 254
          phase := .tx }

/-- `44_instructions.md` R252, R261, R263: SyncWrite and BulkWrite are transmitted to any id and never await a response. -/
def Obligations.UnansweredRequestsStartTransmission : Prop :=
  ∀ (proto : Proto) (i : WireInstr) (mk : Byte → List Byte → Instr),
    (proto, i, mk) ∈ [(Proto.p1, WireInstr.syncWrite, Instr.syncWriteP1), (.p2, .syncWrite, .syncWriteP2),
      (.p2, .bulkWrite, .bulkWriteP2)] →
    ∀ (s : State) (id : Byte) (params : List Byte), configValid s.cfg → s.phase = .idle → (s.cmd = 1 ∨ s.cmd = 3) →
      (id.toNat ≤ 252 ∨ id = 254) → frameLength proto params ≤ txMax s.cfg proto →
      exec (mk id params) s =
        .next { latchedRequest s proto id with
          out := s.out ++ [.flush]
          txq := frame s.cfg proto id (opcByte s.cfg.opc i) params
          curRx := false
          phase := .tx }

/-- `30_encoding.md` R105, `44_instructions.md` R259, R260, R263, R264: Reboot, SyncRead and BulkWrite on P1 and StatusResponse
on either protocol are latched, flush, and complete with `NotAvailable`, whatever their parameters; nothing is queued. -/
def Obligations.UnavailableRequestsComplete : Prop :=
  ∀ (proto : Proto) (mk : Byte → List Byte → Instr),
    (proto, mk) ∈ [(Proto.p1, Instr.rebootP1), (.p1, .syncReadP1), (.p1, .bulkWriteP1), (.p1, .statusP1),
      (.p2, .statusP2)] →
    ∀ (s : State) (id : Byte) (params : List Byte), configValid s.cfg → s.phase = .idle → (s.cmd = 1 ∨ s.cmd = 3) →
      id ≠ 253 → id ≠ 255 →
      exec (mk id params) s =
        .next { latchedRequest s proto id with
          out := s.out ++ [.flush]
          result := .notAvailable
          done := true
          txq := [] }

/-- `60_exceptions.md` R305, `41_encode.md` R158: an available request whose frame is too large is latched, flushes, and
completes with `TxError`; nothing is queued. A broadcast ping in collect mode too, its id map cleared. -/
def Obligations.OversizeRequestsCompleteWithTxError : Prop :=
  (∀ (proto : Proto) (i : WireInstr) (s : State) (id : Byte) (params : List Byte), configValid s.cfg →
    avail proto i = true → s.phase = .idle → (s.cmd = 1 ∨ s.cmd = 3) →
    (id.toNat ≤ 252 ∨ (id = 254 ∧ i ≠ .ping ∧ i ≠ .read)) →
    frameLength proto params > txMax s.cfg proto →
    exec (Instr.ofRequest proto i id params) s =
      .next { latchedRequest s proto id with
        out := s.out ++ [.flush]
        result := .txError
        done := true
        txq := [] }) ∧
  (∀ (s : State) (params : List Byte), configValid s.cfg → s.phase = .idle → s.cmd = 7 →
    s.cfg.txMax2 < frameLength .p2 params →
    exec (.pingP2 254 params) s =
      .next { latchedRequest s .p2 254 with
        curCollect := true
        idmap := 0
        idcount := 0
        out := s.out ++ [.flush]
        result := .txError
        done := true
        txq := [] })

/-- `43_sequencer.md` R211, `44_instructions.md` R253: a P2 Ping to the broadcast id carried by `START COLLECT` (7) clears the id
map, queues its frame and will collect. -/
def Obligations.BroadcastPingStartsCollecting : Prop :=
  ∀ (s : State) (params : List Byte), configValid s.cfg → s.phase = .idle → s.cmd = 7 →
    frameLength .p2 params ≤ s.cfg.txMax2 →
    exec (.pingP2 254 params) s =
      .next { latchedRequest s .p2 254 with
        curCollect := true
        idmap := 0
        idcount := 0
        out := s.out ++ [.flush]
        txq := frameP2 s.cfg 254 s.cfg.opc.ping params
        curRx := true
        phase := .tx }

/-- `43_sequencer.md` R205, R209: `START TX` transmits the request of the registers and awaits nothing; `START TXRX` transmits it
and awaits a response unless the id is the broadcast id or the instruction is SyncWrite or BulkWrite. -/
def Obligations.StartTransmitsTheRequest : Prop :=
  (∀ (s : State) (i : WireInstr), s.phase = .idle → instrOf s.cfg.opc s.reqInstr = some i → avail s.proto i = true →
    (s.reqId.toNat ≤ 252 ∨ (s.reqId = 254 ∧ i ≠ .ping ∧ i ≠ .read)) →
    frameLength s.proto (requestParams s) ≤ txMax s.cfg s.proto →
    exec .startTx s =
      .next { latchedRequest s s.proto s.reqId with
        out := s.out ++ [.flush]
        txq := frame s.cfg s.proto s.reqId s.reqInstr (requestParams s)
        curRx := false
        phase := .tx
        cmd := 1
        free := s.free + s.reqPlen.toNat }) ∧
  (∀ (s : State) (i : WireInstr), s.phase = .idle → instrOf s.cfg.opc s.reqInstr = some i → avail s.proto i = true →
    (s.reqId.toNat ≤ 252 ∨ (s.reqId = 254 ∧ i ≠ .ping ∧ i ≠ .read)) →
    frameLength s.proto (requestParams s) ≤ txMax s.cfg s.proto →
    exec .startTxrx s =
      .next { latchedRequest s s.proto s.reqId with
        out := s.out ++ [.flush]
        txq := frame s.cfg s.proto s.reqId s.reqInstr (requestParams s)
        curRx := decide (s.reqId ≠ 254 ∧ i ≠ .syncWrite ∧ i ≠ .bulkWrite)
        phase := .tx
        cmd := 3
        free := s.free + s.reqPlen.toNat })

/-- `60_exceptions.md` R310, R311: the output `irq` is `DONE` and `IRQ_EN`; which steps raise it and which lower it; a START
refused with port busy does neither. -/
def Obligations.InterruptIsDoneAndEnabled : Prop :=
  (∀ s : State, irq s = true ↔ s.done = true ∧ s.irqEn = true) ∧
  (∀ (s t : State) (e : Event) (es : List Event), s.events = e :: es → step s = .next t → irq s = false → irq t = true →
    (s.irqEn = true ∧ s.done = false ∧ t.phase = .idle ∧ t.txq = [] ∧ t.rxbuf = [] ∧ t.result ≠ .none) ∨
    (s.done = true ∧ s.irqEn = false ∧ ∃ v, e = .hostWrite 0x00 4 v ∧ v.getLsbD 1 = true)) ∧
  (∀ (s t : State) (e : Event) (es : List Event), s.events = e :: es → step s = .next t → irq s = true → irq t = false →
    e = .reset ∨ (∃ v, e = .hostWrite 0x00 4 v ∧ v.getLsbD 1 = false) ∨
    (∃ v, e = .hostWrite 0x04 4 v ∧ v.getLsbD 1 = true) ∨ (s.phase = .idle ∧ ∃ v, e = .hostWrite 0x08 4 v)) ∧
  (∀ (s t : State) (v : Word) (es : List Event), s.events = .hostWrite 0x08 4 v :: es → s.phase ≠ .idle →
    step s = .next t → irq t = irq s)

/-- `43_sequencer.md` R211: `START COLLECT` of a P2 Ping to the broadcast id clears the id map, transmits and collects. -/
def Obligations.StartCollectTransmitsTheBroadcastPing : Prop :=
  ∀ s : State, s.phase = .idle → s.proto = .p2 → s.reqId = 254 → instrOf s.cfg.opc s.reqInstr = some .ping →
    frameLength .p2 (requestParams s) ≤ s.cfg.txMax2 →
    exec .startCollect s =
      .next { latchedRequest s .p2 254 with
        curCollect := true
        idmap := 0
        idcount := 0
        out := s.out ++ [.flush]
        txq := frameP2 s.cfg 254 s.reqInstr (requestParams s)
        curRx := true
        phase := .tx
        cmd := 7
        free := s.free + s.reqPlen.toNat }

/-- `43_sequencer.md` R210, R222: `START RX` latches the id to match, marks the instant and receives, without a flush, whatever
the instruction byte, the parameter count and `TXP` hold; so does a receive-only START (2) carrying any wire instruction. -/
def Obligations.StartRxReceivesWithoutFlush : Prop :=
  (∀ s : State, s.phase = .idle → s.reqId.toNat ≤ 252 →
    exec .startRx s =
      .next { latchedRequest s s.proto s.reqId with curRx := true, elapsed := 0, phase := .rx, cmd := 2 }) ∧
  (∀ (s : State) (proto : Proto) (i : WireInstr) (id : Byte) (params : List Byte), s.phase = .idle → s.cmd = 2 →
    id.toNat ≤ 252 →
    exec (Instr.ofRequest proto i id params) s =
      .next { latchedRequest s proto id with curRx := true, elapsed := 0, phase := .rx })

/-- `10_state.md` R26, R45: a step whose event writes to `CMD` a word that decodes to an instruction is `exec` of that
instruction, the event taken off the schedule. -/
def Obligations.StepRunsTheDecodedCommand : Prop :=
  ∀ (s : State) (v : Word) (es : List Event) (i : Instr), s.events = .hostWrite 0x08 4 v :: es →
    decode s.cfg .cmd (leBytes 4 v.toNat) = .ok i → step s = exec i { s with events := es }

/-- `43_sequencer.md` R205, `20_memory.md` R75: a step whose event is a START with `TX` on an idle MPF runs the wire
instruction the request registers hold, with the parameters `TXP` holds. -/
def Obligations.StepRunsTheRequestOfTheRegisters : Prop :=
  ∀ (s : State) (v : Word) (es : List Event) (i : WireInstr), s.events = .hostWrite 0x08 4 v :: es →
    (v = 1 ∨ v = 3 ∨ v = 7) → s.phase = .idle → instrOf s.cfg.opc s.reqInstr = some i →
    step s =
      exec (Instr.ofRequest s.proto i s.reqId (requestParams s))
        { s with events := es, cmd := v, free := s.free + s.reqPlen.toNat }

/-- `10_state.md` R33, `43_sequencer.md` R205: the parameters of a request are `TXP[0..PLEN)`: as many bytes as `PLEN` says, each
the byte written last, and 0 at or beyond `TXPCAP`. -/
def Obligations.RequestParametersComeFromTxp : Prop :=
  ∀ s : State, (requestParams s).length = s.reqPlen.toNat ∧
    ∀ i, i < s.reqPlen.toNat →
      (∀ b, i < txpCap s.cfg → s.mem.read? (0x10000 + i) = some b → (requestParams s)[i]? = some b) ∧
      (txpCap s.cfg ≤ i → (requestParams s)[i]? = some 0)

/-- `43_sequencer.md` R212, R213: what `TxAccept` and `TxRefuse` do in the transmit phase. -/
def Obligations.TransmitEventsFollowTheRules : Prop :=
  (∀ (s : State) (b : Byte) (rest : List Byte) (es : List Event), s.events = .txAccept :: es → s.phase = .tx →
    s.txq = b :: rest →
    step s =
      if rest ≠ [] then .next { s with events := es, out := s.out ++ [.txByte b], txq := rest }
      else if s.curRx then
        .next { s with events := es, out := s.out ++ [.txByte b], txq := [], elapsed := 0, phase := .rx }
      else
        .next { s with
          events := es
          out := s.out ++ [.txByte b]
          txq := []
          rxbuf := []
          phase := .idle
          result := .success
          done := true
          resId := s.curId
          resErr := 0
          resPlen := 0 }) ∧
  (∀ (s : State) (es : List Event), s.events = .txRefuse :: es → s.phase = .tx →
    step s =
      .next { s with events := es, txq := [], rxbuf := [], phase := .idle, result := .txFail, done := true })

/-- `43_sequencer.md` R225: what one `Tick` does in every phase. -/
def Obligations.TickFollowsTheRule : Prop :=
  ∀ (s : State) (es : List Event), s.events = .tick :: es →
    (s.phase ≠ .rx → step s = .next { s with events := es }) ∧
    (s.phase = .rx →
      ∃ e : Word, e.toNat = min (s.elapsed.toNat + 1) (2 ^ 32 - 1) ∧
        (e.toNat ≤ s.budget.toNat → step s = .next { s with events := es, elapsed := e }) ∧
        (s.budget.toNat < e.toNat → s.curCollect = true → 0 < s.idcount.toNat →
          step s = .next { s with
            events := es
            elapsed := e
            txq := []
            rxbuf := []
            phase := .idle
            result := .success
            done := true
            resId := s.curId
            resErr := 0
            resPlen := 0 }) ∧
        (s.budget.toNat < e.toNat → (s.curCollect = false ∨ s.idcount = 0) →
          step s = .next { s with
            events := es
            elapsed := e
            txq := []
            rxbuf := []
            phase := .idle
            result := .rxTimeout
            done := true }))

/-- `43_sequencer.md` R215 to R219: what one received byte does, by the scanner's verdict on the buffer with it. Outside the
receive phase no byte is received (`10_state.md` R42, R45); that the event then changes nothing is log entry 8 (DEDUCED). -/
def Obligations.ReceivedByteFollowsTheVerdict : Prop :=
  ∀ (s : State) (b : Byte) (es : List Event), s.events = .rxByte b :: es →
    (s.phase ≠ .rx → step s = .next { s with events := es }) ∧
    (s.phase = .rx →
      (∀ k, scan s.cfg s.curProto (s.rxbuf ++ [b]) = .needMore k → step s = .next { s with events := es, rxbuf := k }) ∧
      (scan s.cfg s.curProto (s.rxbuf ++ [b]) = .corrupt →
        step s = .next { s with events := es, rxbuf := [], corruptSeen := true }) ∧
      (∀ id ie params rest, scan s.cfg s.curProto (s.rxbuf ++ [b]) = .frame id ie params rest →
        (∀ st, s.curCollect = false → statusView s.cfg s.curProto ie params = some st → id = s.curId →
          step s = .next { s with
            events := es
            txq := []
            rxbuf := []
            phase := .idle
            result := .success
            done := true
            resId := id
            resErr := st.err
            resPlen := BitVec.ofNat 16 st.data.length
            mem := s.mem.writeList 0x20000 st.data }) ∧
        (s.curCollect = false → (statusView s.cfg s.curProto ie params = none ∨ id ≠ s.curId) →
          step s = .next { s with events := es, rxbuf := rest, idmissSeen := true }) ∧
        (s.curCollect = true → (∃ st, statusView s.cfg s.curProto ie params = some st) → id.toNat ≤ 252 →
          ∃ m n, (∀ j, m.getLsbD j = (s.idmap.getLsbD j || decide (j = id.toNat))) ∧
            n = BitVec.ofNat 8 ((List.range 256).countP (fun j => m.getLsbD j)) ∧
            step s = .next { s with events := es, rxbuf := rest, idmap := m, idcount := n }) ∧
        (s.curCollect = true → (statusView s.cfg s.curProto ie params = none ∨ 252 < id.toNat) →
          step s = .next { s with events := es, rxbuf := rest, idmissSeen := true })))

/-- `10_state.md` R46, `20_memory.md` R74: from the transmit phase on, whatever events stand between (no refusal, no reset), the
bytes that leave are exactly the queued frame in order, and the last one ends the phase. A received byte among the events has
no effect by log entry 8 (DEDUCED from R45). -/
def Obligations.TransmitPhaseSendsExactlyTheFrame : Prop :=
  ∀ (s : State) (es rest : List Event), s.phase = .tx → s.txq ≠ [] → s.events = es ++ .txAccept :: rest →
    (∀ e ∈ es, e ≠ .txRefuse ∧ e ≠ .reset) → es.count .txAccept + 1 = s.txq.length →
    ∃ t, run (es.length + 1) s = .next t ∧ t.events = rest ∧
      t.out = s.out ++ s.txq.map Output.txByte ∧ t.txq = [] ∧
      (s.curRx = true → t.phase = .rx ∧ t.elapsed = 0) ∧
      (s.curRx = false → t.phase = .idle ∧ t.result = .success ∧ t.done = true ∧ t.resId = s.curId ∧ t.resErr = 0 ∧
        t.resPlen = 0)

/-- `43_sequencer.md` R225, `70_reset_and_hazards.md` R363: in silence the timeout falls on the tick after the budget and on no
earlier one; with any traffic and any host access but a START, a request still waiting has counted every tick and is
within its budget. -/
def Obligations.TimeoutFallsOnTheTickAfterTheBudget : Prop :=
  (∀ (s : State) (k : Nat) (es : List Event), s.phase = .rx → s.elapsed = 0 → s.curCollect = false →
    s.events = List.replicate k .tick ++ es →
    (k ≤ s.budget.toNat → run k s = .next { s with events := es, elapsed := BitVec.ofNat 32 k }) ∧
    (k = s.budget.toNat + 1 → s.budget.toNat < 2 ^ 32 - 1 →
      run k s = .next { s with
        events := es
        elapsed := BitVec.ofNat 32 k
        txq := []
        rxbuf := []
        phase := .idle
        result := .rxTimeout
        done := true })) ∧
  (∀ (s t : State) (es : List Event), s.phase = .rx → s.events = es →
    (∀ e ∈ es, e ≠ .reset ∧ ∀ a n v, e = .hostWrite a n v → a ≠ 0x08) →
    run es.length s = .next t → t.phase = .rx →
    t.budget = s.budget ∧ t.elapsed.toNat = min (s.elapsed.toNat + es.count .tick) (2 ^ 32 - 1) ∧
      (0 < es.count .tick → t.elapsed ≤ t.budget))

/-- `43_sequencer.md` R216, `41_encode.md` R160, `42_decode.md` R185: the status frame of the awaited device, received byte by byte
into an empty buffer, completes the request on its last byte with the error byte and the data, in P1 and in both P2
status forms. -/
def Obligations.StatusFrameOfTheDeviceIsAccepted : Prop :=
  ∀ (s : State) (err : Byte) (data f : List Byte) (es : List Event), configValid s.cfg → s.phase = .rx →
    s.rxbuf = [] → s.curCollect = false → s.curId.toNat ≤ 252 →
    ((s.curProto = .p1 ∧ data.length + 6 ≤ s.cfg.rxMax1 ∧ f = frameP1 s.curId err data) ∨
      (s.curProto = .p2 ∧ s.cfg.statusForm = .errInSlot ∧ (stuff data).length + 10 ≤ s.cfg.rxMax2 ∧
        f = frameP2 s.cfg s.curId err data) ∨
      (s.curProto = .p2 ∧ s.cfg.statusForm = .instrThenErr ∧ (stuff (err :: data)).length + 10 ≤ s.cfg.rxMax2 ∧
        f = frameP2 s.cfg s.curId s.cfg.opc.statusResponse (err :: data))) →
    s.events = f.map Event.rxByte ++ es →
    run f.length s =
      .next { s with
        events := es
        txq := []
        rxbuf := []
        phase := .idle
        result := .success
        done := true
        resId := s.curId
        resErr := err
        resPlen := BitVec.ofNat 16 data.length
        mem := s.mem.writeList 0x20000 data }

/-- `43_sequencer.md` R217: a valid frame of another id, received byte by byte into an empty buffer, is discarded: the flag
`IDMISS_SEEN` is set and the receive loop goes on as it was. -/
def Obligations.ForeignFrameIsDiscarded : Prop :=
  ∀ (s : State) (id ie : Byte) (params : List Byte) (es : List Event), configValid s.cfg → s.phase = .rx →
    s.rxbuf = [] → s.curCollect = false → id ≠ s.curId → id ≠ 253 → id ≠ 255 →
    frameLength s.curProto params ≤ rxMax s.cfg s.curProto →
    s.events = (frame s.cfg s.curProto id ie params).map Event.rxByte ++ es →
    run (frame s.cfg s.curProto id ie params).length s = .next { s with events := es, idmissSeen := true }

/-- `10_state.md` R48, R50: what the Reset event leaves, in any state: the reset values, no output. That no buffer byte counts as
written and that the configuration and the schedule stay is the model's choice (log entries 3 and 15). -/
def Obligations.ResetEventLeavesTheResetValues : Prop :=
  ∀ (s : State) (es : List Event), s.events = .reset :: es →
    ∃ t, step s = .next t ∧
      (t.proto = .p1 ∧ t.irqEn = false) ∧
      (t.done = false ∧ t.busyReject = false ∧ t.corruptSeen = false ∧ t.idmissSeen = false) ∧
      (t.reqId = 0 ∧ t.reqInstr = 0 ∧ t.reqPlen = 0 ∧ t.reqRxlen = 0 ∧ t.tLat = 0 ∧ t.tByte = 0 ∧ t.tSlack = 0) ∧
      (resultCode t.result = 15 ∧ t.resId = 0 ∧ t.resErr = 0 ∧ t.resPlen = 0 ∧ t.idmap = 0 ∧ t.idcount = 0) ∧
      (t.phase = .idle ∧ t.txq = [] ∧ t.rxbuf = [] ∧ t.elapsed = 0 ∧ t.budget = 0) ∧
      (t.curProto = .p1 ∧ t.curId = 0 ∧ t.curRx = false ∧ t.curCollect = false) ∧
      (∀ a, t.mem.read? a = none) ∧ t.out = s.out ∧ t.cfg = s.cfg ∧ t.events = es

/-- `20_memory.md` R63, R64, `10_state.md` R23 to R29, `60_exceptions.md` R323: a write to a read-write register
stores its writable bits, which read back, and changes nothing else; a write to `STATUS` clears `DONE` and `BUSY_REJECT` where the value has a 1, and nothing else; a
write to any other register offset but `CMD` changes nothing. -/
def Obligations.RegisterWritesFollowTheMap : Prop :=
  (∀ p ∈ [((0x00 : Nat), (0x3 : Word)), (0x0C, 0xFFFFFFFF), (0x10, 0xFFFF), (0x14, 0xFFFFFFFF), (0x18, 0xFFFF),
      (0x1C, 0xFFFFFFFF)],
    ∀ (s : State) (v : Word) (es : List Event), s.events = .hostWrite p.1 4 v :: .hostRead p.1 4 :: es →
      ∃ t, run 2 s = .next t ∧ t.rdata = v &&& p.2 ∧ t.events = es) ∧
  (∀ (s : State) (v : Word) (es : List Event),
    (s.events = .hostWrite 0x00 4 v :: es →
      step s = .next { s with events := es, proto := if v.getLsbD 0 then .p2 else .p1, irqEn := v.getLsbD 1 }) ∧
    (s.events = .hostWrite 0x0C 4 v :: es →
      step s = .next { s with
        events := es
        reqId := v.extractLsb' 0 8
        reqInstr := v.extractLsb' 8 8
        reqPlen := v.extractLsb' 16 16 }) ∧
    (s.events = .hostWrite 0x10 4 v :: es → step s = .next { s with events := es, reqRxlen := v.extractLsb' 0 16 }) ∧
    (s.events = .hostWrite 0x14 4 v :: es → step s = .next { s with events := es, tLat := v }) ∧
    (s.events = .hostWrite 0x18 4 v :: es → step s = .next { s with events := es, tByte := v.extractLsb' 0 16 }) ∧
    (s.events = .hostWrite 0x1C 4 v :: es → step s = .next { s with events := es, tSlack := v })) ∧
  (∀ (s : State) (a : Nat) (v : Word) (es : List Event), a < 0x10000 →
    a ∉ [0x00, 0x04, 0x08, 0x0C, 0x10, 0x14, 0x18, 0x1C] → s.events = .hostWrite a 4 v :: es →
    step s = .next { s with events := es }) ∧
  (∀ (s : State) (v : Word) (es : List Event), s.events = .hostWrite 0x04 4 v :: es →
    step s =
      .next { s with
        events := es
        done := if v.getLsbD 1 then false else s.done
        busyReject := if v.getLsbD 2 then false else s.busyReject })

/-- `20_memory.md` R63, R64, R68, `10_state.md` R33, R34: a `TXP` write of 1, 2 or 4 bytes stores the value little-endian, index
by index, skips indices at or beyond `TXPCAP` and changes nothing else; inside the capacity it reads back; a read of either
window gives the bytes written last, little-endian, and 0 for those at or beyond the capacity, and changes nothing but the value
returned (and the model's free-value counter); a write to the `RXP` window is ignored. -/
def Obligations.BufferAccessesAreLittleEndian : Prop :=
  (∀ (s : State) (i n : Nat) (v : Word) (es : List Event), (n = 1 ∨ n = 2 ∨ n = 4) → i + n ≤ 0x10000 →
    s.events = .hostWrite (0x10000 + i) n v :: es →
    ∃ m, step s = .next { s with events := es, mem := m } ∧
      (∀ k, k < n → i + k < txpCap s.cfg → m.read? (0x10000 + i + k) = some (v.extractLsb' (8 * k) 8)) ∧
      ∀ a, (a < 0x10000 + i ∨ 0x10000 + i + n ≤ a ∨ 0x10000 + txpCap s.cfg ≤ a) → m.read? a = s.mem.read? a) ∧
  (∀ (s : State) (i n : Nat) (v : Word) (es : List Event), (n = 1 ∨ n = 2 ∨ n = 4) → i + n ≤ txpCap s.cfg →
    i + n ≤ 0x10000 → s.events = .hostWrite (0x10000 + i) n v :: .hostRead (0x10000 + i) n :: es →
    ∃ t, run 2 s = .next t ∧ t.rdata.toNat = v.toNat % 256 ^ n ∧
      ∀ a, (a < 0x10000 + i ∨ 0x10000 + i + n ≤ a) → t.mem.read? a = s.mem.read? a) ∧
  (∀ (s : State) (base cap i n : Nat) (es : List Event),
    ((base = 0x10000 ∧ cap = txpCap s.cfg) ∨ (base = 0x20000 ∧ cap = rxpCap s.cfg)) → (n = 1 ∨ n = 2 ∨ n = 4) →
    i + n ≤ 0x10000 → s.events = .hostRead (base + i) n :: es →
    ∃ v : Word, step s = .next { s with events := es, rdata := v, free := s.free + n } ∧ v.toNat < 256 ^ n ∧
      ∀ k, k < n →
        (cap ≤ i + k → v.extractLsb' (8 * k) 8 = 0) ∧
        (∀ b, i + k < cap → s.mem.read? (base + i + k) = some b → v.extractLsb' (8 * k) 8 = b)) ∧
  (∀ (s : State) (i n : Nat) (v : Word) (es : List Event), i < 0x10000 → s.events = .hostWrite (0x20000 + i) n v :: es →
    step s = .next { s with events := es })

/-- `20_memory.md` R62: an illegal access (a register access that is not four aligned bytes, a buffer access of another width
or across a window's end) is ignored by a write and reads 0. -/
def Obligations.IllegalAccessesHaveNoEffect : Prop :=
  ∀ (s : State) (a n : Nat) (v : Word) (es : List Event), a < 0x30000 →
    ((a < 0x10000 ∧ ¬ (n = 4 ∧ a % 4 = 0)) ∨ (0x10000 ≤ a ∧ ¬ (n = 1 ∨ n = 2 ∨ n = 4)) ∨
      (a < 0x10000 + 0x10000 ∧ 0x10000 ≤ a ∧ 0x20000 < a + n) ∨ (0x20000 ≤ a ∧ 0x30000 < a + n)) →
    (s.events = .hostWrite a n v :: es → step s = .next { s with events := es }) ∧
    (s.events = .hostRead a n :: es →
      ∃ t, step s = .next t ∧ t = { s with events := es, rdata := 0, free := t.free })

/-- `20_memory.md` R63, `10_state.md` R24 to R35, `60_exceptions.md` R301: what a 4-byte read of a register returns, reserved bits as zero, and that it
changes no state of MPF; offsets not listed read 0. -/
def Obligations.RegisterReadsFollowTheMap : Prop :=
  ∀ (s : State) (a : Nat) (es : List Event), s.events = .hostRead a 4 :: es → a < 0x10000 → a % 4 = 0 →
    ∃ v : Word, step s = .next { s with events := es, rdata := v, free := s.free + 4 } ∧
      (a = 0x00 → v.toNat = (if s.proto = .p2 then 1 else 0) + (if s.irqEn then 2 else 0)) ∧
      (a = 0x04 → v.toNat =
        (if s.phase = .idle then 0 else 1) + (if s.done then 2 else 0) + (if s.busyReject then 4 else 0) +
          (if s.corruptSeen then 8 else 0) + (if s.idmissSeen then 16 else 0) +
          32 * (match s.phase with | .idle => 0 | .tx => 1 | .rx => 2)) ∧
      (a = 0x0C → v.toNat = s.reqId.toNat + 256 * s.reqInstr.toNat + 65536 * s.reqPlen.toNat) ∧
      (a = 0x10 → v.toNat = s.reqRxlen.toNat) ∧
      (a = 0x14 → v = s.tLat) ∧
      (a = 0x18 → v.toNat = s.tByte.toNat) ∧
      (a = 0x1C → v = s.tSlack) ∧
      (a = 0x20 → v.toNat =
        (match s.result with
          | .success => 0
          | .portBusy => 1
          | .txFail => 2
          | .rxFail => 3
          | .txError => 4
          | .rxWaiting => 5
          | .rxTimeout => 6
          | .rxCorrupt => 7
          | .notAvailable => 8
          | .none => 15)) ∧
      (a = 0x24 → v.toNat = s.resId.toNat + 256 * s.resErr.toNat + 65536 * s.resPlen.toNat) ∧
      (a = 0x28 → v = s.budget) ∧
      (a = 0x2C → v = s.elapsed) ∧
      (a = 0x30 → v.toNat = s.idcount.toNat) ∧
      (0x40 ≤ a → a ≤ 0x5C → ∀ j, j < 32 → v.getLsbD j = s.idmap.getLsbD (8 * (a - 0x40) + j)) ∧
      (a = 0x08 ∨ (0x30 < a ∧ a < 0x40) ∨ 0x5C < a → v = 0)

/-- `10_state.md` R45: every event is total: a step always answers a next state, in every state, reachable or not. -/
def Obligations.EveryStepAnswersANextState : Prop :=
  (∀ s : State, ∃ t, step s = .next t) ∧ ∀ (i : Instr) (s : State), ∃ t, exec i s = .next t

/-- The buffer memory keeps its canonical form and stays inside `TXP` and `RXP` (`10_state.md` R33, R34). -/
def Obligations.StepKeepsTheMemoryCanonical : Prop :=
  ∀ s t : State, MemoryInv s → step s = .next t → MemoryInv t

/-- `10_state.md` R37: the queues of each phase, `BUSY`, and the bound of `elapsed`, after every step. -/
def Obligations.StepKeepsTheQueueInvariant : Prop :=
  ∀ s t : State, QueueInv s → step s = .next t →
    QueueInv t ∧ ((statusWord t).getLsbD 0 = true ↔ t.phase ≠ .idle) ∧ t.elapsed.toNat ≤ 2 ^ 32 - 1

/-- The latched request of a busy MPF stays legal (`43_sequencer.md` R205, R207, R209), and a receive phase never outlives its
budget (R225). -/
def Obligations.StepKeepsTheRequestInFlightLegal : Prop :=
  (∀ s t : State, CurrentInv s → step s = .next t → CurrentInv t) ∧
    (∀ s t : State, TimerInv s → step s = .next t → TimerInv t)

/-- `10_state.md` R35: the id map's top three bits stay 0 and `IDCOUNT` stays the number of bits set. -/
def Obligations.StepKeepsTheIdMapCounted : Prop :=
  ∀ s t : State, IdMapInv s → step s = .next t → IdMapInv t

/-- `93_implementation_defined.md` U14: `RESULT.CODE` stays one of 0, 2, 4, 6, 8, 15, and `DONE` stands only with a result and no
request in flight. -/
def Obligations.StepKeepsTheResultDeliverable : Prop :=
  ∀ s t : State, ResultInv s → step s = .next t →
    ResultInv t ∧ resultCode t.result ∈ [(0 : BitVec 4), 2, 4, 6, 8, 15]

/-- `10_state.md` R31, R34: `RXP[0..PLEN)` always holds the data of the last success. -/
def Obligations.StepKeepsTheResultDataWritten : Prop :=
  ∀ s t : State, DataInv s → step s = .next t → DataInv t

/-- The state after reset satisfies every invariant. -/
def Obligations.ResetSatisfiesEveryInvariant : Prop := Inv State.reset

/-- `43_sequencer.md` R203: every change of phase, by its event, with the condition under which it happens and the result it
delivers (none yet: `RESULT` unchanged); no other event changes `phase`. -/
def Obligations.PhaseChangesOnlyByTheTable : Prop :=
  ∀ (s t : State) (e : Event) (es : List Event), s.events = e :: es → step s = .next t → t.phase ≠ s.phase →
    (e = .reset ∧ t.phase = .idle ∧ t.result = .none ∧ t.done = false) ∨
    (s.phase = .idle ∧ t.phase = .tx ∧ t.result = s.result ∧ t.done = false ∧
      ∃ v i, e = .hostWrite 0x08 4 v ∧ (v = 1 ∨ v = 3 ∨ v = 7) ∧ instrOf s.cfg.opc s.reqInstr = some i ∧
        avail s.proto i = true ∧ s.reqId ≠ 253 ∧ s.reqId ≠ 255 ∧
        (v = 7 → s.proto = .p2 ∧ s.reqId = 254 ∧ i = .ping) ∧
        (v ≠ 7 → s.reqId = 254 → i ≠ .ping ∧ i ≠ .read) ∧
        frameLength s.proto (requestParams s) ≤ txMax s.cfg s.proto) ∨
    (s.phase = .idle ∧ t.phase = .rx ∧ t.result = s.result ∧ t.done = false ∧ e = .hostWrite 0x08 4 2 ∧
      s.reqId.toNat ≤ 252 ∧ t.elapsed = 0) ∨
    (s.phase = .tx ∧ t.phase = .rx ∧ t.result = s.result ∧ t.done = s.done ∧ e = .txAccept ∧ s.txq.length = 1 ∧
      s.curRx = true ∧ t.elapsed = 0) ∨
    (s.phase = .tx ∧ t.phase = .idle ∧ e = .txAccept ∧ s.txq.length = 1 ∧ s.curRx = false ∧ t.result = .success ∧
      t.done = true) ∨
    (s.phase = .tx ∧ t.phase = .idle ∧ e = .txRefuse ∧ t.result = .txFail ∧ t.done = true) ∨
    (s.phase = .rx ∧ t.phase = .idle ∧ s.curCollect = false ∧ t.result = .success ∧ t.done = true ∧
      ∃ b ie params rest st, e = .rxByte b ∧
        scan s.cfg s.curProto (s.rxbuf ++ [b]) = .frame s.curId ie params rest ∧
        statusView s.cfg s.curProto ie params = some st ∧ t.resId = s.curId ∧ t.resErr = st.err) ∨
    (s.phase = .rx ∧ t.phase = .idle ∧ e = .tick ∧ s.budget < t.elapsed ∧ t.done = true ∧
      ((s.curCollect = true ∧ s.idcount ≠ 0 ∧ t.result = .success) ∨
        ((s.curCollect = false ∨ s.idcount = 0) ∧ t.result = .rxTimeout)))

/-- `10_state.md` R46, `20_memory.md` R74, R76: a step emits nothing, or one `Flush` by a START with `TX` on an idle MPF, or one
byte, the next of `txq`, by `TxAccept` in the transmit phase. -/
def Obligations.OutputsComeOnlyFromStartAndAccept : Prop :=
  ∀ (s t : State) (e : Event) (es : List Event), s.events = e :: es → step s = .next t →
    t.out = s.out ∨
    (t.out = s.out ++ [.flush] ∧ s.phase = .idle ∧
      (e = .hostWrite 0x08 4 1 ∨ e = .hostWrite 0x08 4 3 ∨ e = .hostWrite 0x08 4 7)) ∨
    (∃ b, t.out = s.out ++ [.txByte b] ∧ s.phase = .tx ∧ e = .txAccept ∧ s.txq = b :: t.txq)

/-- `10_state.md` R21, `60_exceptions.md` R320: no event but a host write to them and Reset changes `CTRL`, the request registers,
the `T_` registers or a byte of `TXP`; a START among them. -/
def Obligations.OnlyTheHostWritesTheRequestRegisters : Prop :=
  ∀ (s t : State) (e : Event) (es : List Event), s.events = e :: es → step s = .next t → e ≠ .reset →
    (∀ a n v, e = .hostWrite a n v → a = 0x08) →
    t.proto = s.proto ∧ t.irqEn = s.irqEn ∧ t.reqId = s.reqId ∧ t.reqInstr = s.reqInstr ∧ t.reqPlen = s.reqPlen ∧
      t.reqRxlen = s.reqRxlen ∧ t.tLat = s.tLat ∧ t.tByte = s.tByte ∧ t.tSlack = s.tSlack ∧
      ∀ i, i < 0x10000 → t.mem.read? (0x10000 + i) = s.mem.read? (0x10000 + i)

/-- `20_memory.md` R66, R75: a host write that is neither a START nor to `STATUS` commutes with every event of the transport and
the time base: it does not disturb the request in flight. -/
def Obligations.HostWritesDoNotDisturbTheRequestInFlight : Prop :=
  ∀ (s : State) (a n : Nat) (v : Word) (e : Event) (es : List Event), s.mem.wf → a ≠ 0x04 → a ≠ 0x08 →
    (e = .txAccept ∨ e = .txRefuse ∨ e = .tick ∨ ∃ b, e = .rxByte b) →
    run 2 { s with events := .hostWrite a n v :: e :: es } = run 2 { s with events := e :: .hostWrite a n v :: es }

/-- `70_reset_and_hazards.md` R356, `43_sequencer.md` R210: bytes of `TXP` beyond `PLEN`, and all of `RXP`, make no difference to
a START: where `TXP[0..PLEN)` has been written, another buffer memory with the same bytes there ends in the same state, that
memory apart; to a receive-only START no buffer byte makes a difference. -/
def Obligations.StaleBufferBytesDoNoHarm : Prop :=
  ∀ (s t : State) (m : Memory) (i : Instr),
    (i = .startTx ∨ i = .startRx ∨ i = .startTxrx ∨ i = .startCollect) →
    (i ≠ .startRx → ∀ k, k < s.reqPlen.toNat → k < txpCap s.cfg →
      ∃ b, s.mem.read? (0x10000 + k) = some b ∧ m.read? (0x10000 + k) = some b) →
    exec i s = .next t → exec i { s with mem := m } = .next { t with mem := m }

/-- `10_state.md` R31, `60_exceptions.md` R313, R320, R321: `RES_HDR` and `RXP` change only by a completion with `Success` of a
request in flight (Reset apart). -/
def Obligations.ResultRegistersChangeOnlyBySuccess : Prop :=
  ∀ (s t : State) (e : Event) (es : List Event), s.events = e :: es → step s = .next t → e ≠ .reset →
    ¬ (t.resId = s.resId ∧ t.resErr = s.resErr ∧ t.resPlen = s.resPlen ∧
      ∀ i, t.mem.read? (0x20000 + i) = s.mem.read? (0x20000 + i)) →
    s.phase ≠ .idle ∧ t.phase = .idle ∧ t.result = .success ∧ t.done = true

/-- `10_state.md` R38: what sets and what clears each of the five flags of `STATUS`, Reset apart, and nothing else does. -/
def Obligations.FlagsChangeOnlyByTheTable : Prop :=
  ∀ (s t : State) (e : Event) (es : List Event), s.events = e :: es → step s = .next t → e ≠ .reset →
    ((statusWord s).getLsbD 0 = false → (statusWord t).getLsbD 0 = true →
      (∃ v, e = .hostWrite 0x08 4 v) ∧ (t.phase = .tx ∨ t.phase = .rx) ∧ t.done = false) ∧
    ((statusWord s).getLsbD 0 = true → (statusWord t).getLsbD 0 = false →
      t.done = true ∧ t.phase = .idle ∧ t.txq = [] ∧ t.rxbuf = [] ∧
        (e = .txAccept ∨ e = .txRefuse ∨ e = .tick ∨ ∃ b, e = .rxByte b)) ∧
    (s.done = false → t.done = true → t.phase = .idle ∧ t.txq = [] ∧ t.rxbuf = [] ∧ t.result ≠ .none ∧
      ((∃ v, e = .hostWrite 0x08 4 v) ∨ e = .txAccept ∨ e = .txRefuse ∨ e = .tick ∨ ∃ b, e = .rxByte b)) ∧
    (s.done = true → t.done = false →
      (∃ v, e = .hostWrite 0x04 4 v ∧ v.getLsbD 1 = true) ∨ (s.phase = .idle ∧ ∃ v, e = .hostWrite 0x08 4 v)) ∧
    (s.busyReject = false → t.busyReject = true → s.phase ≠ .idle ∧ ∃ v, e = .hostWrite 0x08 4 v) ∧
    (s.busyReject = true → t.busyReject = false → ∃ v, e = .hostWrite 0x04 4 v ∧ v.getLsbD 2 = true) ∧
    (s.corruptSeen = false → t.corruptSeen = true →
      ∃ b, e = .rxByte b ∧ s.phase = .rx ∧ scan s.cfg s.curProto (s.rxbuf ++ [b]) = .corrupt) ∧
    (s.corruptSeen = true → t.corruptSeen = false → s.phase = .idle ∧ ∃ v, e = .hostWrite 0x08 4 v) ∧
    (s.idmissSeen = false → t.idmissSeen = true →
      ∃ b id ie params rest, e = .rxByte b ∧ s.phase = .rx ∧
        scan s.cfg s.curProto (s.rxbuf ++ [b]) = .frame id ie params rest ∧
        (statusView s.cfg s.curProto ie params = none ∨ (s.curCollect = false ∧ id ≠ s.curId) ∨
          (s.curCollect = true ∧ 252 < id.toNat))) ∧
    (s.idmissSeen = true → t.idmissSeen = false → s.phase = .idle ∧ ∃ v, e = .hostWrite 0x08 4 v)

/-- `70_reset_and_hazards.md` R355: a sum of terms of 2^32 - 1 or more latches the budget 2^32 - 1, with which no tick ends the
receive phase; a budget of 0 makes the first tick after the mark end it. -/
def Obligations.SaturatedBudgetNeverExpires : Prop :=
  (∀ (s t : State), s.phase = .idle → s.reqId.toNat ≤ 252 →
    2 ^ 32 - 1 ≤ s.tLat.toNat + s.tByte.toNat * s.reqRxlen.toNat + s.tSlack.toNat →
    exec .startRx s = .next t → t.budget.toNat = 2 ^ 32 - 1) ∧
  (∀ (s : State) (k : Nat), s.phase = .rx → s.budget.toNat = 2 ^ 32 - 1 → s.events = List.replicate k .tick →
    ∃ t, run k s = .next t ∧ t.phase = .rx ∧ t.elapsed.toNat = min (s.elapsed.toNat + k) (2 ^ 32 - 1)) ∧
  (∀ (s : State) (es : List Event), s.phase = .rx → s.elapsed = 0 → s.budget = 0 → s.events = .tick :: es →
    ∃ t, step s = .next t ∧ t.phase = .idle ∧ t.done = true)

/-- `44_instructions.md` R275, R277, R278, `43_sequencer.md` R205: the wrapper `read(id, address, n)`. On an idle MPF its accesses up
to START put the Read request with its operands in the transmit phase and await the response. What follows waits until `DONE`,
reads `RESULT` and `RES_HDR`, acknowledges, and returns the code and the error byte, with the value (`n` = 1, 2 or 4) or the
bytes `RXP[0..n)` where the response holds `n` data bytes. `n` = 0 is refused without an access. The operand layout and the
defaults are the spec's general knowledge (log entry 12); the script that plays the wrapper, and operands cut to their width, are
the model's (log entries 14 and 20). -/
def Obligations.ReadWrapperExchangesTheRequest : Prop :=
  (∀ (s : State) (id : Byte) (address n : Nat) (es : List Event), configValid s.cfg → s.phase = .idle → id.toNat ≤ 252 →
    4 ≤ txpCap s.cfg → readExpansion s.cfg s.proto id address n = .ok es → s.events = es →
    (s.proto = .p1 → 8 ≤ s.cfg.txMax1 →
      ∃ t, run es.length s = .next t ∧ t.phase = .tx ∧ t.curRx = true ∧ t.events = [] ∧
        t.txq = frameP1 id s.cfg.opc.read [lo8 address, lo8 n]) ∧
    (s.proto = .p2 → 15 ≤ s.cfg.txMax2 →
      ∃ t, run es.length s = .next t ∧ t.phase = .tx ∧ t.curRx = true ∧ t.events = [] ∧
        t.txq = frameP2 s.cfg id s.cfg.opc.read [lo8 address, hi8 address, lo8 n, hi8 n])) ∧
  (∀ (c : Config) (proto : Proto) (id : Byte) (address n : Nat) (s : State) (ts : List Turn), n = 0 → (∀ u ∈ ts, u = .host) →
    play ts (readScript c proto id address n) s = some (.ret ⟨8, none, .nothing⟩, s)) ∧
  (∀ (c : Config) (proto : Proto) (id : Byte) (address n : Nat) (es : List Event),
    readExpansion c proto id address n = .ok es → readScript c proto id address n = issueAll es (readFinish n)) ∧
  (∀ (s : State) (n : Nat), s.done = false →
    play [.host] (readFinish n) s = some (readFinish n, { s with rdata := statusWord s, free := s.free + 4 })) ∧
  (∀ (s : State) (n : Nat), s.done = true → (s.result ≠ .success ∨ s.resPlen.toNat < n) →
    ∃ t, play (List.replicate 4 .host) (readFinish n) s =
        some (.ret ⟨resultCode s.result, some s.resErr, .nothing⟩, t) ∧
      t = { s with done := false, rdata := t.rdata, free := t.free }) ∧
  (∀ (s : State) (n : Nat) (bs : List Byte), s.done = true → s.result = .success → n ≤ s.resPlen.toNat →
    n ≤ rxpCap s.cfg → n ≤ 0x10000 → bs.length = n → (∀ i, i < n → s.mem.read? (0x20000 + i) = bs[i]?) →
    ((n = 1 ∨ n = 2 ∨ n = 4) →
      ∃ t, play (List.replicate 5 .host) (readFinish n) s = some (.ret ⟨0, some s.resErr, .number (leNat bs)⟩, t) ∧
        t = { s with done := false, rdata := t.rdata, free := t.free }) ∧
    (¬ (n = 1 ∨ n = 2 ∨ n = 4) →
      ∃ t, play (List.replicate (4 + n) .host) (readFinish n) s = some (.ret ⟨0, some s.resErr, .bytes bs⟩, t) ∧
        t = { s with done := false, rdata := t.rdata, free := t.free }))
end

