-- ==== Sys2Proof/Laws/Codes.lean ====
section
/-! SUPPORT. The instruction-byte table: `InstrOf` inverts `OPC`. -/

namespace Sys2Proof.Machine

theorem mem_wireInstrs (i : WireInstr) : i ∈ wireInstrs := by cases i <;> decide

/-- `InstrOf` answers an instruction whose byte is the one asked for. -/
theorem opcByte_of_instrOf {o : Opc} {b : Byte} {i : WireInstr} (h : instrOf o b = some i) : opcByte o i = b := by
  have := List.find?_some h
  simpa using this

/-- Where `OPC` is injective `InstrOf` finds every instruction by its byte. -/
theorem instrOf_opcByte {o : Opc} (h : opcInjective o) (i : WireInstr) : instrOf o (opcByte o i) = some i := by
  cases hf : instrOf o (opcByte o i) with
  | none =>
    have := (List.find?_eq_none.mp hf) i (mem_wireInstrs i)
    simp at this
  | some j =>
    have hb := opcByte_of_instrOf hf
    have := List.inj_on_of_nodup_map h (mem_wireInstrs j) (mem_wireInstrs i) hb
    rw [this]

/-- The same for a valid configuration. -/
theorem instrOf_opcByte_of_valid {c : Config} (h : configValid c) (i : WireInstr) :
    instrOf c.opc (opcByte c.opc i) = some i := instrOf_opcByte h.2.2.2.2.2 i

end Sys2Proof.Machine
end

