-- ==== Sys2Proof/Laws/Memory.lean ====
section
/-! SUPPORT. The buffer memory: what a read sees after a write, and that every write keeps the canonical form. -/

namespace Sys2Proof.Machine

theorem Memory.wf_cons {k : Nat} {c : Byte} {m : Memory} (h : Memory.wf ((k, c) :: m)) : Memory.wf m :=
  (List.pairwise_cons.mp h).2

theorem Memory.wf_head_lt {k : Nat} {c : Byte} {m : Memory} (h : Memory.wf ((k, c) :: m)) :
    ∀ x ∈ m, k < x.1 := fun x hx =>
  (List.pairwise_cons.mp h).1 x.1 (List.mem_map_of_mem hx)

/-- The cells after a write are the cell written or cells from before. -/
theorem Memory.mem_write {m : Memory} {a : Nat} {b : Byte} {x : Host.Cell} (h : x ∈ m.write a b) :
    x = (a, b) ∨ x ∈ m := by
  induction m with
  | nil => simpa [Memory.write] using h
  | cons y m ih =>
    obtain ⟨k, c⟩ := y
    unfold Memory.write at h
    split at h
    · simpa using h
    · split at h
      · rcases List.mem_cons.mp h with h | h
        · exact .inl h
        · exact .inr (List.mem_cons_of_mem _ h)
      · rcases List.mem_cons.mp h with h | h
        · exact .inr (h ▸ List.mem_cons_self)
        · rcases ih h with h | h
          · exact .inl h
          · exact .inr (List.mem_cons_of_mem _ h)

/-- A write keeps the canonical form. -/
theorem Memory.write_wf {m : Memory} (h : m.wf) (a : Nat) (b : Byte) : (m.write a b).wf := by
  induction m with
  | nil => simp [Memory.write, Memory.wf]
  | cons y m ih =>
    obtain ⟨k, c⟩ := y
    have hm := Memory.wf_cons h
    have hlt := Memory.wf_head_lt h
    unfold Memory.write
    split
    · rename_i hak
      refine List.pairwise_cons.mpr ⟨?_, h⟩
      intro z hz
      simp only [List.map_cons, List.mem_cons, List.mem_map] at hz
      rcases hz with rfl | ⟨x, hx, rfl⟩
      · exact hak
      · exact Nat.lt_trans hak (hlt x hx)
    · split
      · rename_i hak
        subst hak
        exact h
      · refine List.pairwise_cons.mpr ⟨?_, ih hm⟩
        intro z hz
        simp only [List.mem_map] at hz
        obtain ⟨x, hx, rfl⟩ := hz
        rcases Memory.mem_write hx with rfl | hx
        · simp only; omega
        · exact hlt x hx

/-- Writing consecutive bytes keeps the canonical form. -/
theorem Memory.writeList_wf {m : Memory} (h : m.wf) (a : Nat) (bs : List Byte) : (m.writeList a bs).wf := by
  induction bs generalizing m a with
  | nil => exact h
  | cons b bs ih => exact ih (Memory.write_wf h a b) (a + 1)

/-- The byte written reads back. -/
@[simp] theorem Memory.read?_write_same (m : Memory) (a : Nat) (b : Byte) : (m.write a b).read? a = some b := by
  induction m with
  | nil => simp [Memory.write, Memory.read?]
  | cons y m ih =>
    obtain ⟨k, c⟩ := y
    unfold Memory.write
    split
    · simp [Memory.read?]
    · split
      · simp [Memory.read?]
      · rename_i h
        simp [Memory.read?, Ne.symm h, ih]

/-- A write leaves every other byte alone. -/
theorem Memory.read?_write_other (m : Memory) {a x : Nat} (b : Byte) (h : x ≠ a) :
    (m.write a b).read? x = m.read? x := by
  induction m with
  | nil => simp [Memory.write, Memory.read?, Ne.symm h]
  | cons y m ih =>
    obtain ⟨k, c⟩ := y
    unfold Memory.write
    split
    · simp [Memory.read?, Ne.symm h]
    · split
      · rename_i hak
        subst hak
        simp [Memory.read?, Ne.symm h]
      · simp [Memory.read?, ih]

/-- Bytes below the first one written are left alone. -/
theorem Memory.read?_writeList_below (m : Memory) {a x : Nat} (bs : List Byte) (h : x < a) :
    (m.writeList a bs).read? x = m.read? x := by
  induction bs generalizing m a with
  | nil => rfl
  | cons b bs ih =>
    rw [Memory.writeList, ih _ (by omega), Memory.read?_write_other _ _ (by omega)]

/-- Bytes above the last one written are left alone. -/
theorem Memory.read?_writeList_above (m : Memory) {a x : Nat} (bs : List Byte) (h : a + bs.length ≤ x) :
    (m.writeList a bs).read? x = m.read? x := by
  induction bs generalizing m a with
  | nil => rfl
  | cons b bs ih =>
    simp only [List.length_cons] at h
    rw [Memory.writeList, ih _ (by omega), Memory.read?_write_other _ _ (by omega)]

/-- Every byte written reads back. -/
theorem Memory.read?_writeList (m : Memory) (a : Nat) (bs : List Byte) {i : Nat} (h : i < bs.length) :
    (m.writeList a bs).read? (a + i) = some bs[i] := by
  induction bs generalizing m a i with
  | nil => simp at h
  | cons b bs ih =>
    cases i with
    | zero =>
      rw [Memory.writeList, Memory.read?_writeList_below _ _ (by omega)]
      simp
    | succ i =>
      have := ih (m.write a b) (a + 1) (i := i) (by simpa using h)
      rw [Memory.writeList, show a + (i + 1) = a + 1 + i by omega, this]
      rfl

/-- The cells after writing consecutive bytes: those written, or cells from before. -/
theorem Memory.mem_writeList {m : Memory} {a : Nat} {bs : List Byte} {x : Host.Cell} (h : x ∈ m.writeList a bs) :
    (a ≤ x.1 ∧ x.1 < a + bs.length) ∨ x ∈ m := by
  induction bs generalizing m a with
  | nil => exact .inr h
  | cons b bs ih =>
    rcases ih h with h | h
    · simp only [List.length_cons]
      exact .inl (by omega)
    · rcases Memory.mem_write h with rfl | h
      · simp
      · exact .inr h

/-- Writes to different bytes commute. -/
theorem Memory.write_comm {m : Memory} (h : m.wf) {a a' : Nat} (b b' : Byte) (hne : a ≠ a') :
    (m.write a b).write a' b' = (m.write a' b').write a b := by
  induction m with
  | nil =>
    rcases Nat.lt_or_gt_of_ne hne with h | h <;>
      simp [Memory.write, h, Nat.not_lt_of_lt h, hne, Ne.symm hne]
  | cons y m ih =>
    obtain ⟨k, c⟩ := y
    have hc := ih (Memory.wf_cons h)
    rcases Nat.lt_trichotomy a k with h1 | h1 | h1 <;> rcases Nat.lt_trichotomy a' k with h2 | h2 | h2 <;>
      rcases Nat.lt_or_gt_of_ne hne with h3 | h3 <;>
      first
        | omega
        | simp [Memory.write, *, Nat.not_lt_of_lt, Nat.ne_of_gt, Ne.symm hne]

/-- The memory after reset has the canonical form. -/
theorem State.reset_mem_wf : State.reset.mem.wf := List.Pairwise.nil

end Sys2Proof.Machine
end

