-- ==== Sys2Proof/Laws/State.lean ====
section
/-! SUPPORT. One lemma per field per named update of the state, so that no proof unfolds a record update. -/

namespace Sys2Proof.Machine

@[simp] theorem emit_proto (o : Output) (s : State) : (emit o s).proto = s.proto := rfl
@[simp] theorem emit_irqEn (o : Output) (s : State) : (emit o s).irqEn = s.irqEn := rfl
@[simp] theorem emit_done (o : Output) (s : State) : (emit o s).done = s.done := rfl
@[simp] theorem emit_busyReject (o : Output) (s : State) : (emit o s).busyReject = s.busyReject := rfl
@[simp] theorem emit_corruptSeen (o : Output) (s : State) : (emit o s).corruptSeen = s.corruptSeen := rfl
@[simp] theorem emit_idmissSeen (o : Output) (s : State) : (emit o s).idmissSeen = s.idmissSeen := rfl
@[simp] theorem emit_reqId (o : Output) (s : State) : (emit o s).reqId = s.reqId := rfl
@[simp] theorem emit_reqInstr (o : Output) (s : State) : (emit o s).reqInstr = s.reqInstr := rfl
@[simp] theorem emit_reqPlen (o : Output) (s : State) : (emit o s).reqPlen = s.reqPlen := rfl
@[simp] theorem emit_reqRxlen (o : Output) (s : State) : (emit o s).reqRxlen = s.reqRxlen := rfl
@[simp] theorem emit_tLat (o : Output) (s : State) : (emit o s).tLat = s.tLat := rfl
@[simp] theorem emit_tByte (o : Output) (s : State) : (emit o s).tByte = s.tByte := rfl
@[simp] theorem emit_tSlack (o : Output) (s : State) : (emit o s).tSlack = s.tSlack := rfl
@[simp] theorem emit_result (o : Output) (s : State) : (emit o s).result = s.result := rfl
@[simp] theorem emit_resId (o : Output) (s : State) : (emit o s).resId = s.resId := rfl
@[simp] theorem emit_resErr (o : Output) (s : State) : (emit o s).resErr = s.resErr := rfl
@[simp] theorem emit_resPlen (o : Output) (s : State) : (emit o s).resPlen = s.resPlen := rfl
@[simp] theorem emit_idmap (o : Output) (s : State) : (emit o s).idmap = s.idmap := rfl
@[simp] theorem emit_idcount (o : Output) (s : State) : (emit o s).idcount = s.idcount := rfl
@[simp] theorem emit_mem (o : Output) (s : State) : (emit o s).mem = s.mem := rfl
@[simp] theorem emit_phase (o : Output) (s : State) : (emit o s).phase = s.phase := rfl
@[simp] theorem emit_curProto (o : Output) (s : State) : (emit o s).curProto = s.curProto := rfl
@[simp] theorem emit_curId (o : Output) (s : State) : (emit o s).curId = s.curId := rfl
@[simp] theorem emit_curRx (o : Output) (s : State) : (emit o s).curRx = s.curRx := rfl
@[simp] theorem emit_curCollect (o : Output) (s : State) : (emit o s).curCollect = s.curCollect := rfl
@[simp] theorem emit_txq (o : Output) (s : State) : (emit o s).txq = s.txq := rfl
@[simp] theorem emit_rxbuf (o : Output) (s : State) : (emit o s).rxbuf = s.rxbuf := rfl
@[simp] theorem emit_elapsed (o : Output) (s : State) : (emit o s).elapsed = s.elapsed := rfl
@[simp] theorem emit_budget (o : Output) (s : State) : (emit o s).budget = s.budget := rfl
@[simp] theorem emit_cfg (o : Output) (s : State) : (emit o s).cfg = s.cfg := rfl
@[simp] theorem emit_cmd (o : Output) (s : State) : (emit o s).cmd = s.cmd := rfl
@[simp] theorem emit_rdata (o : Output) (s : State) : (emit o s).rdata = s.rdata := rfl
@[simp] theorem emit_free (o : Output) (s : State) : (emit o s).free = s.free := rfl
@[simp] theorem emit_events (o : Output) (s : State) : (emit o s).events = s.events := rfl
@[simp] theorem emit_out (o : Output) (s : State) : (emit o s).out = s.out ++ [o] := rfl

@[simp] theorem complete_proto (c : CommResult) (s : State) : (complete c s).proto = s.proto := rfl
@[simp] theorem complete_irqEn (c : CommResult) (s : State) : (complete c s).irqEn = s.irqEn := rfl
@[simp] theorem complete_done (c : CommResult) (s : State) : (complete c s).done = true := rfl
@[simp] theorem complete_busyReject (c : CommResult) (s : State) : (complete c s).busyReject = s.busyReject := rfl
@[simp] theorem complete_corruptSeen (c : CommResult) (s : State) : (complete c s).corruptSeen = s.corruptSeen := rfl
@[simp] theorem complete_idmissSeen (c : CommResult) (s : State) : (complete c s).idmissSeen = s.idmissSeen := rfl
@[simp] theorem complete_reqId (c : CommResult) (s : State) : (complete c s).reqId = s.reqId := rfl
@[simp] theorem complete_reqInstr (c : CommResult) (s : State) : (complete c s).reqInstr = s.reqInstr := rfl
@[simp] theorem complete_reqPlen (c : CommResult) (s : State) : (complete c s).reqPlen = s.reqPlen := rfl
@[simp] theorem complete_reqRxlen (c : CommResult) (s : State) : (complete c s).reqRxlen = s.reqRxlen := rfl
@[simp] theorem complete_tLat (c : CommResult) (s : State) : (complete c s).tLat = s.tLat := rfl
@[simp] theorem complete_tByte (c : CommResult) (s : State) : (complete c s).tByte = s.tByte := rfl
@[simp] theorem complete_tSlack (c : CommResult) (s : State) : (complete c s).tSlack = s.tSlack := rfl
@[simp] theorem complete_result (c : CommResult) (s : State) : (complete c s).result = c := rfl
@[simp] theorem complete_resId (c : CommResult) (s : State) : (complete c s).resId = s.resId := rfl
@[simp] theorem complete_resErr (c : CommResult) (s : State) : (complete c s).resErr = s.resErr := rfl
@[simp] theorem complete_resPlen (c : CommResult) (s : State) : (complete c s).resPlen = s.resPlen := rfl
@[simp] theorem complete_idmap (c : CommResult) (s : State) : (complete c s).idmap = s.idmap := rfl
@[simp] theorem complete_idcount (c : CommResult) (s : State) : (complete c s).idcount = s.idcount := rfl
@[simp] theorem complete_mem (c : CommResult) (s : State) : (complete c s).mem = s.mem := rfl
@[simp] theorem complete_phase (c : CommResult) (s : State) : (complete c s).phase = .idle := rfl
@[simp] theorem complete_curProto (c : CommResult) (s : State) : (complete c s).curProto = s.curProto := rfl
@[simp] theorem complete_curId (c : CommResult) (s : State) : (complete c s).curId = s.curId := rfl
@[simp] theorem complete_curRx (c : CommResult) (s : State) : (complete c s).curRx = s.curRx := rfl
@[simp] theorem complete_curCollect (c : CommResult) (s : State) : (complete c s).curCollect = s.curCollect := rfl
@[simp] theorem complete_txq (c : CommResult) (s : State) : (complete c s).txq = [] := rfl
@[simp] theorem complete_rxbuf (c : CommResult) (s : State) : (complete c s).rxbuf = [] := rfl
@[simp] theorem complete_elapsed (c : CommResult) (s : State) : (complete c s).elapsed = s.elapsed := rfl
@[simp] theorem complete_budget (c : CommResult) (s : State) : (complete c s).budget = s.budget := rfl
@[simp] theorem complete_cfg (c : CommResult) (s : State) : (complete c s).cfg = s.cfg := rfl
@[simp] theorem complete_cmd (c : CommResult) (s : State) : (complete c s).cmd = s.cmd := rfl
@[simp] theorem complete_rdata (c : CommResult) (s : State) : (complete c s).rdata = s.rdata := rfl
@[simp] theorem complete_free (c : CommResult) (s : State) : (complete c s).free = s.free := rfl
@[simp] theorem complete_events (c : CommResult) (s : State) : (complete c s).events = s.events := rfl
@[simp] theorem complete_out (c : CommResult) (s : State) : (complete c s).out = s.out := rfl

@[simp] theorem completeWith_proto (id err : Byte) (data : List Byte) (s : State) : (completeWith id err data s).proto = s.proto := rfl
@[simp] theorem completeWith_irqEn (id err : Byte) (data : List Byte) (s : State) : (completeWith id err data s).irqEn = s.irqEn := rfl
@[simp] theorem completeWith_done (id err : Byte) (data : List Byte) (s : State) : (completeWith id err data s).done = true := rfl
@[simp] theorem completeWith_busyReject (id err : Byte) (data : List Byte) (s : State) : (completeWith id err data s).busyReject = s.busyReject := rfl
@[simp] theorem completeWith_corruptSeen (id err : Byte) (data : List Byte) (s : State) : (completeWith id err data s).corruptSeen = s.corruptSeen := rfl
@[simp] theorem completeWith_idmissSeen (id err : Byte) (data : List Byte) (s : State) : (completeWith id err data s).idmissSeen = s.idmissSeen := rfl
@[simp] theorem completeWith_reqId (id err : Byte) (data : List Byte) (s : State) : (completeWith id err data s).reqId = s.reqId := rfl
@[simp] theorem completeWith_reqInstr (id err : Byte) (data : List Byte) (s : State) : (completeWith id err data s).reqInstr = s.reqInstr := rfl
@[simp] theorem completeWith_reqPlen (id err : Byte) (data : List Byte) (s : State) : (completeWith id err data s).reqPlen = s.reqPlen := rfl
@[simp] theorem completeWith_reqRxlen (id err : Byte) (data : List Byte) (s : State) : (completeWith id err data s).reqRxlen = s.reqRxlen := rfl
@[simp] theorem completeWith_tLat (id err : Byte) (data : List Byte) (s : State) : (completeWith id err data s).tLat = s.tLat := rfl
@[simp] theorem completeWith_tByte (id err : Byte) (data : List Byte) (s : State) : (completeWith id err data s).tByte = s.tByte := rfl
@[simp] theorem completeWith_tSlack (id err : Byte) (data : List Byte) (s : State) : (completeWith id err data s).tSlack = s.tSlack := rfl
@[simp] theorem completeWith_result (id err : Byte) (data : List Byte) (s : State) : (completeWith id err data s).result = .success := rfl
@[simp] theorem completeWith_resId (id err : Byte) (data : List Byte) (s : State) : (completeWith id err data s).resId = id := rfl
@[simp] theorem completeWith_resErr (id err : Byte) (data : List Byte) (s : State) : (completeWith id err data s).resErr = err := rfl
@[simp] theorem completeWith_resPlen (id err : Byte) (data : List Byte) (s : State) : (completeWith id err data s).resPlen = BitVec.ofNat 16 data.length := rfl
@[simp] theorem completeWith_idmap (id err : Byte) (data : List Byte) (s : State) : (completeWith id err data s).idmap = s.idmap := rfl
@[simp] theorem completeWith_idcount (id err : Byte) (data : List Byte) (s : State) : (completeWith id err data s).idcount = s.idcount := rfl
@[simp] theorem completeWith_mem (id err : Byte) (data : List Byte) (s : State) : (completeWith id err data s).mem = s.mem.writeList rxpBase data := rfl
@[simp] theorem completeWith_phase (id err : Byte) (data : List Byte) (s : State) : (completeWith id err data s).phase = .idle := rfl
@[simp] theorem completeWith_curProto (id err : Byte) (data : List Byte) (s : State) : (completeWith id err data s).curProto = s.curProto := rfl
@[simp] theorem completeWith_curId (id err : Byte) (data : List Byte) (s : State) : (completeWith id err data s).curId = s.curId := rfl
@[simp] theorem completeWith_curRx (id err : Byte) (data : List Byte) (s : State) : (completeWith id err data s).curRx = s.curRx := rfl
@[simp] theorem completeWith_curCollect (id err : Byte) (data : List Byte) (s : State) : (completeWith id err data s).curCollect = s.curCollect := rfl
@[simp] theorem completeWith_txq (id err : Byte) (data : List Byte) (s : State) : (completeWith id err data s).txq = [] := rfl
@[simp] theorem completeWith_rxbuf (id err : Byte) (data : List Byte) (s : State) : (completeWith id err data s).rxbuf = [] := rfl
@[simp] theorem completeWith_elapsed (id err : Byte) (data : List Byte) (s : State) : (completeWith id err data s).elapsed = s.elapsed := rfl
@[simp] theorem completeWith_budget (id err : Byte) (data : List Byte) (s : State) : (completeWith id err data s).budget = s.budget := rfl
@[simp] theorem completeWith_cfg (id err : Byte) (data : List Byte) (s : State) : (completeWith id err data s).cfg = s.cfg := rfl
@[simp] theorem completeWith_cmd (id err : Byte) (data : List Byte) (s : State) : (completeWith id err data s).cmd = s.cmd := rfl
@[simp] theorem completeWith_rdata (id err : Byte) (data : List Byte) (s : State) : (completeWith id err data s).rdata = s.rdata := rfl
@[simp] theorem completeWith_free (id err : Byte) (data : List Byte) (s : State) : (completeWith id err data s).free = s.free := rfl
@[simp] theorem completeWith_events (id err : Byte) (data : List Byte) (s : State) : (completeWith id err data s).events = s.events := rfl
@[simp] theorem completeWith_out (id err : Byte) (data : List Byte) (s : State) : (completeWith id err data s).out = s.out := rfl

@[simp] theorem portBusy_proto (s : State) : (portBusy s).proto = s.proto := rfl
@[simp] theorem portBusy_irqEn (s : State) : (portBusy s).irqEn = s.irqEn := rfl
@[simp] theorem portBusy_done (s : State) : (portBusy s).done = s.done := rfl
@[simp] theorem portBusy_busyReject (s : State) : (portBusy s).busyReject = true := rfl
@[simp] theorem portBusy_corruptSeen (s : State) : (portBusy s).corruptSeen = s.corruptSeen := rfl
@[simp] theorem portBusy_idmissSeen (s : State) : (portBusy s).idmissSeen = s.idmissSeen := rfl
@[simp] theorem portBusy_reqId (s : State) : (portBusy s).reqId = s.reqId := rfl
@[simp] theorem portBusy_reqInstr (s : State) : (portBusy s).reqInstr = s.reqInstr := rfl
@[simp] theorem portBusy_reqPlen (s : State) : (portBusy s).reqPlen = s.reqPlen := rfl
@[simp] theorem portBusy_reqRxlen (s : State) : (portBusy s).reqRxlen = s.reqRxlen := rfl
@[simp] theorem portBusy_tLat (s : State) : (portBusy s).tLat = s.tLat := rfl
@[simp] theorem portBusy_tByte (s : State) : (portBusy s).tByte = s.tByte := rfl
@[simp] theorem portBusy_tSlack (s : State) : (portBusy s).tSlack = s.tSlack := rfl
@[simp] theorem portBusy_result (s : State) : (portBusy s).result = s.result := rfl
@[simp] theorem portBusy_resId (s : State) : (portBusy s).resId = s.resId := rfl
@[simp] theorem portBusy_resErr (s : State) : (portBusy s).resErr = s.resErr := rfl
@[simp] theorem portBusy_resPlen (s : State) : (portBusy s).resPlen = s.resPlen := rfl
@[simp] theorem portBusy_idmap (s : State) : (portBusy s).idmap = s.idmap := rfl
@[simp] theorem portBusy_idcount (s : State) : (portBusy s).idcount = s.idcount := rfl
@[simp] theorem portBusy_mem (s : State) : (portBusy s).mem = s.mem := rfl
@[simp] theorem portBusy_phase (s : State) : (portBusy s).phase = s.phase := rfl
@[simp] theorem portBusy_curProto (s : State) : (portBusy s).curProto = s.curProto := rfl
@[simp] theorem portBusy_curId (s : State) : (portBusy s).curId = s.curId := rfl
@[simp] theorem portBusy_curRx (s : State) : (portBusy s).curRx = s.curRx := rfl
@[simp] theorem portBusy_curCollect (s : State) : (portBusy s).curCollect = s.curCollect := rfl
@[simp] theorem portBusy_txq (s : State) : (portBusy s).txq = s.txq := rfl
@[simp] theorem portBusy_rxbuf (s : State) : (portBusy s).rxbuf = s.rxbuf := rfl
@[simp] theorem portBusy_elapsed (s : State) : (portBusy s).elapsed = s.elapsed := rfl
@[simp] theorem portBusy_budget (s : State) : (portBusy s).budget = s.budget := rfl
@[simp] theorem portBusy_cfg (s : State) : (portBusy s).cfg = s.cfg := rfl
@[simp] theorem portBusy_cmd (s : State) : (portBusy s).cmd = s.cmd := rfl
@[simp] theorem portBusy_rdata (s : State) : (portBusy s).rdata = s.rdata := rfl
@[simp] theorem portBusy_free (s : State) : (portBusy s).free = s.free := rfl
@[simp] theorem portBusy_events (s : State) : (portBusy s).events = s.events := rfl
@[simp] theorem portBusy_out (s : State) : (portBusy s).out = s.out := rfl

@[simp] theorem acknowledge_proto (v : Word) (s : State) : (acknowledge v s).proto = s.proto := rfl
@[simp] theorem acknowledge_irqEn (v : Word) (s : State) : (acknowledge v s).irqEn = s.irqEn := rfl
@[simp] theorem acknowledge_done (v : Word) (s : State) : (acknowledge v s).done = (s.done && !v.getLsbD 1) := rfl
@[simp] theorem acknowledge_busyReject (v : Word) (s : State) : (acknowledge v s).busyReject = (s.busyReject && !v.getLsbD 2) := rfl
@[simp] theorem acknowledge_corruptSeen (v : Word) (s : State) : (acknowledge v s).corruptSeen = s.corruptSeen := rfl
@[simp] theorem acknowledge_idmissSeen (v : Word) (s : State) : (acknowledge v s).idmissSeen = s.idmissSeen := rfl
@[simp] theorem acknowledge_reqId (v : Word) (s : State) : (acknowledge v s).reqId = s.reqId := rfl
@[simp] theorem acknowledge_reqInstr (v : Word) (s : State) : (acknowledge v s).reqInstr = s.reqInstr := rfl
@[simp] theorem acknowledge_reqPlen (v : Word) (s : State) : (acknowledge v s).reqPlen = s.reqPlen := rfl
@[simp] theorem acknowledge_reqRxlen (v : Word) (s : State) : (acknowledge v s).reqRxlen = s.reqRxlen := rfl
@[simp] theorem acknowledge_tLat (v : Word) (s : State) : (acknowledge v s).tLat = s.tLat := rfl
@[simp] theorem acknowledge_tByte (v : Word) (s : State) : (acknowledge v s).tByte = s.tByte := rfl
@[simp] theorem acknowledge_tSlack (v : Word) (s : State) : (acknowledge v s).tSlack = s.tSlack := rfl
@[simp] theorem acknowledge_result (v : Word) (s : State) : (acknowledge v s).result = s.result := rfl
@[simp] theorem acknowledge_resId (v : Word) (s : State) : (acknowledge v s).resId = s.resId := rfl
@[simp] theorem acknowledge_resErr (v : Word) (s : State) : (acknowledge v s).resErr = s.resErr := rfl
@[simp] theorem acknowledge_resPlen (v : Word) (s : State) : (acknowledge v s).resPlen = s.resPlen := rfl
@[simp] theorem acknowledge_idmap (v : Word) (s : State) : (acknowledge v s).idmap = s.idmap := rfl
@[simp] theorem acknowledge_idcount (v : Word) (s : State) : (acknowledge v s).idcount = s.idcount := rfl
@[simp] theorem acknowledge_mem (v : Word) (s : State) : (acknowledge v s).mem = s.mem := rfl
@[simp] theorem acknowledge_phase (v : Word) (s : State) : (acknowledge v s).phase = s.phase := rfl
@[simp] theorem acknowledge_curProto (v : Word) (s : State) : (acknowledge v s).curProto = s.curProto := rfl
@[simp] theorem acknowledge_curId (v : Word) (s : State) : (acknowledge v s).curId = s.curId := rfl
@[simp] theorem acknowledge_curRx (v : Word) (s : State) : (acknowledge v s).curRx = s.curRx := rfl
@[simp] theorem acknowledge_curCollect (v : Word) (s : State) : (acknowledge v s).curCollect = s.curCollect := rfl
@[simp] theorem acknowledge_txq (v : Word) (s : State) : (acknowledge v s).txq = s.txq := rfl
@[simp] theorem acknowledge_rxbuf (v : Word) (s : State) : (acknowledge v s).rxbuf = s.rxbuf := rfl
@[simp] theorem acknowledge_elapsed (v : Word) (s : State) : (acknowledge v s).elapsed = s.elapsed := rfl
@[simp] theorem acknowledge_budget (v : Word) (s : State) : (acknowledge v s).budget = s.budget := rfl
@[simp] theorem acknowledge_cfg (v : Word) (s : State) : (acknowledge v s).cfg = s.cfg := rfl
@[simp] theorem acknowledge_cmd (v : Word) (s : State) : (acknowledge v s).cmd = s.cmd := rfl
@[simp] theorem acknowledge_rdata (v : Word) (s : State) : (acknowledge v s).rdata = s.rdata := rfl
@[simp] theorem acknowledge_free (v : Word) (s : State) : (acknowledge v s).free = s.free := rfl
@[simp] theorem acknowledge_events (v : Word) (s : State) : (acknowledge v s).events = s.events := rfl
@[simp] theorem acknowledge_out (v : Word) (s : State) : (acknowledge v s).out = s.out := rfl

@[simp] theorem recordId_proto (id : Byte) (s : State) : (recordId id s).proto = s.proto := rfl
@[simp] theorem recordId_irqEn (id : Byte) (s : State) : (recordId id s).irqEn = s.irqEn := rfl
@[simp] theorem recordId_done (id : Byte) (s : State) : (recordId id s).done = s.done := rfl
@[simp] theorem recordId_busyReject (id : Byte) (s : State) : (recordId id s).busyReject = s.busyReject := rfl
@[simp] theorem recordId_corruptSeen (id : Byte) (s : State) : (recordId id s).corruptSeen = s.corruptSeen := rfl
@[simp] theorem recordId_idmissSeen (id : Byte) (s : State) : (recordId id s).idmissSeen = s.idmissSeen := rfl
@[simp] theorem recordId_reqId (id : Byte) (s : State) : (recordId id s).reqId = s.reqId := rfl
@[simp] theorem recordId_reqInstr (id : Byte) (s : State) : (recordId id s).reqInstr = s.reqInstr := rfl
@[simp] theorem recordId_reqPlen (id : Byte) (s : State) : (recordId id s).reqPlen = s.reqPlen := rfl
@[simp] theorem recordId_reqRxlen (id : Byte) (s : State) : (recordId id s).reqRxlen = s.reqRxlen := rfl
@[simp] theorem recordId_tLat (id : Byte) (s : State) : (recordId id s).tLat = s.tLat := rfl
@[simp] theorem recordId_tByte (id : Byte) (s : State) : (recordId id s).tByte = s.tByte := rfl
@[simp] theorem recordId_tSlack (id : Byte) (s : State) : (recordId id s).tSlack = s.tSlack := rfl
@[simp] theorem recordId_result (id : Byte) (s : State) : (recordId id s).result = s.result := rfl
@[simp] theorem recordId_resId (id : Byte) (s : State) : (recordId id s).resId = s.resId := rfl
@[simp] theorem recordId_resErr (id : Byte) (s : State) : (recordId id s).resErr = s.resErr := rfl
@[simp] theorem recordId_resPlen (id : Byte) (s : State) : (recordId id s).resPlen = s.resPlen := rfl
@[simp] theorem recordId_idmap (id : Byte) (s : State) : (recordId id s).idmap = s.idmap ||| (1#256 <<< id.toNat) := rfl
@[simp] theorem recordId_idcount (id : Byte) (s : State) : (recordId id s).idcount = BitVec.ofNat 8 (idCountOf (s.idmap ||| (1#256 <<< id.toNat))) := rfl
@[simp] theorem recordId_mem (id : Byte) (s : State) : (recordId id s).mem = s.mem := rfl
@[simp] theorem recordId_phase (id : Byte) (s : State) : (recordId id s).phase = s.phase := rfl
@[simp] theorem recordId_curProto (id : Byte) (s : State) : (recordId id s).curProto = s.curProto := rfl
@[simp] theorem recordId_curId (id : Byte) (s : State) : (recordId id s).curId = s.curId := rfl
@[simp] theorem recordId_curRx (id : Byte) (s : State) : (recordId id s).curRx = s.curRx := rfl
@[simp] theorem recordId_curCollect (id : Byte) (s : State) : (recordId id s).curCollect = s.curCollect := rfl
@[simp] theorem recordId_txq (id : Byte) (s : State) : (recordId id s).txq = s.txq := rfl
@[simp] theorem recordId_rxbuf (id : Byte) (s : State) : (recordId id s).rxbuf = s.rxbuf := rfl
@[simp] theorem recordId_elapsed (id : Byte) (s : State) : (recordId id s).elapsed = s.elapsed := rfl
@[simp] theorem recordId_budget (id : Byte) (s : State) : (recordId id s).budget = s.budget := rfl
@[simp] theorem recordId_cfg (id : Byte) (s : State) : (recordId id s).cfg = s.cfg := rfl
@[simp] theorem recordId_cmd (id : Byte) (s : State) : (recordId id s).cmd = s.cmd := rfl
@[simp] theorem recordId_rdata (id : Byte) (s : State) : (recordId id s).rdata = s.rdata := rfl
@[simp] theorem recordId_free (id : Byte) (s : State) : (recordId id s).free = s.free := rfl
@[simp] theorem recordId_events (id : Byte) (s : State) : (recordId id s).events = s.events := rfl
@[simp] theorem recordId_out (id : Byte) (s : State) : (recordId id s).out = s.out := rfl

@[simp] theorem clearForStart_proto (s : State) : (clearForStart s).proto = s.proto := rfl
@[simp] theorem clearForStart_irqEn (s : State) : (clearForStart s).irqEn = s.irqEn := rfl
@[simp] theorem clearForStart_done (s : State) : (clearForStart s).done = false := rfl
@[simp] theorem clearForStart_busyReject (s : State) : (clearForStart s).busyReject = s.busyReject := rfl
@[simp] theorem clearForStart_corruptSeen (s : State) : (clearForStart s).corruptSeen = false := rfl
@[simp] theorem clearForStart_idmissSeen (s : State) : (clearForStart s).idmissSeen = false := rfl
@[simp] theorem clearForStart_reqId (s : State) : (clearForStart s).reqId = s.reqId := rfl
@[simp] theorem clearForStart_reqInstr (s : State) : (clearForStart s).reqInstr = s.reqInstr := rfl
@[simp] theorem clearForStart_reqPlen (s : State) : (clearForStart s).reqPlen = s.reqPlen := rfl
@[simp] theorem clearForStart_reqRxlen (s : State) : (clearForStart s).reqRxlen = s.reqRxlen := rfl
@[simp] theorem clearForStart_tLat (s : State) : (clearForStart s).tLat = s.tLat := rfl
@[simp] theorem clearForStart_tByte (s : State) : (clearForStart s).tByte = s.tByte := rfl
@[simp] theorem clearForStart_tSlack (s : State) : (clearForStart s).tSlack = s.tSlack := rfl
@[simp] theorem clearForStart_result (s : State) : (clearForStart s).result = s.result := rfl
@[simp] theorem clearForStart_resId (s : State) : (clearForStart s).resId = s.resId := rfl
@[simp] theorem clearForStart_resErr (s : State) : (clearForStart s).resErr = s.resErr := rfl
@[simp] theorem clearForStart_resPlen (s : State) : (clearForStart s).resPlen = s.resPlen := rfl
@[simp] theorem clearForStart_idmap (s : State) : (clearForStart s).idmap = s.idmap := rfl
@[simp] theorem clearForStart_idcount (s : State) : (clearForStart s).idcount = s.idcount := rfl
@[simp] theorem clearForStart_mem (s : State) : (clearForStart s).mem = s.mem := rfl
@[simp] theorem clearForStart_phase (s : State) : (clearForStart s).phase = s.phase := rfl
@[simp] theorem clearForStart_curProto (s : State) : (clearForStart s).curProto = s.curProto := rfl
@[simp] theorem clearForStart_curId (s : State) : (clearForStart s).curId = s.curId := rfl
@[simp] theorem clearForStart_curRx (s : State) : (clearForStart s).curRx = s.curRx := rfl
@[simp] theorem clearForStart_curCollect (s : State) : (clearForStart s).curCollect = s.curCollect := rfl
@[simp] theorem clearForStart_txq (s : State) : (clearForStart s).txq = s.txq := rfl
@[simp] theorem clearForStart_rxbuf (s : State) : (clearForStart s).rxbuf = s.rxbuf := rfl
@[simp] theorem clearForStart_elapsed (s : State) : (clearForStart s).elapsed = s.elapsed := rfl
@[simp] theorem clearForStart_budget (s : State) : (clearForStart s).budget = s.budget := rfl
@[simp] theorem clearForStart_cfg (s : State) : (clearForStart s).cfg = s.cfg := rfl
@[simp] theorem clearForStart_cmd (s : State) : (clearForStart s).cmd = s.cmd := rfl
@[simp] theorem clearForStart_rdata (s : State) : (clearForStart s).rdata = s.rdata := rfl
@[simp] theorem clearForStart_free (s : State) : (clearForStart s).free = s.free := rfl
@[simp] theorem clearForStart_events (s : State) : (clearForStart s).events = s.events := rfl
@[simp] theorem clearForStart_out (s : State) : (clearForStart s).out = s.out := rfl

@[simp] theorem latch_proto (v : Word) (p : Proto) (id : Byte) (s : State) : (latch v p id s).proto = s.proto := rfl
@[simp] theorem latch_irqEn (v : Word) (p : Proto) (id : Byte) (s : State) : (latch v p id s).irqEn = s.irqEn := rfl
@[simp] theorem latch_done (v : Word) (p : Proto) (id : Byte) (s : State) : (latch v p id s).done = s.done := rfl
@[simp] theorem latch_busyReject (v : Word) (p : Proto) (id : Byte) (s : State) : (latch v p id s).busyReject = s.busyReject := rfl
@[simp] theorem latch_corruptSeen (v : Word) (p : Proto) (id : Byte) (s : State) : (latch v p id s).corruptSeen = s.corruptSeen := rfl
@[simp] theorem latch_idmissSeen (v : Word) (p : Proto) (id : Byte) (s : State) : (latch v p id s).idmissSeen = s.idmissSeen := rfl
@[simp] theorem latch_reqId (v : Word) (p : Proto) (id : Byte) (s : State) : (latch v p id s).reqId = s.reqId := rfl
@[simp] theorem latch_reqInstr (v : Word) (p : Proto) (id : Byte) (s : State) : (latch v p id s).reqInstr = s.reqInstr := rfl
@[simp] theorem latch_reqPlen (v : Word) (p : Proto) (id : Byte) (s : State) : (latch v p id s).reqPlen = s.reqPlen := rfl
@[simp] theorem latch_reqRxlen (v : Word) (p : Proto) (id : Byte) (s : State) : (latch v p id s).reqRxlen = s.reqRxlen := rfl
@[simp] theorem latch_tLat (v : Word) (p : Proto) (id : Byte) (s : State) : (latch v p id s).tLat = s.tLat := rfl
@[simp] theorem latch_tByte (v : Word) (p : Proto) (id : Byte) (s : State) : (latch v p id s).tByte = s.tByte := rfl
@[simp] theorem latch_tSlack (v : Word) (p : Proto) (id : Byte) (s : State) : (latch v p id s).tSlack = s.tSlack := rfl
@[simp] theorem latch_result (v : Word) (p : Proto) (id : Byte) (s : State) : (latch v p id s).result = s.result := rfl
@[simp] theorem latch_resId (v : Word) (p : Proto) (id : Byte) (s : State) : (latch v p id s).resId = s.resId := rfl
@[simp] theorem latch_resErr (v : Word) (p : Proto) (id : Byte) (s : State) : (latch v p id s).resErr = s.resErr := rfl
@[simp] theorem latch_resPlen (v : Word) (p : Proto) (id : Byte) (s : State) : (latch v p id s).resPlen = s.resPlen := rfl
@[simp] theorem latch_idmap (v : Word) (p : Proto) (id : Byte) (s : State) : (latch v p id s).idmap = if cmdCollect v then 0 else s.idmap := rfl
@[simp] theorem latch_idcount (v : Word) (p : Proto) (id : Byte) (s : State) : (latch v p id s).idcount = if cmdCollect v then 0 else s.idcount := rfl
@[simp] theorem latch_mem (v : Word) (p : Proto) (id : Byte) (s : State) : (latch v p id s).mem = s.mem := rfl
@[simp] theorem latch_phase (v : Word) (p : Proto) (id : Byte) (s : State) : (latch v p id s).phase = s.phase := rfl
@[simp] theorem latch_curProto (v : Word) (p : Proto) (id : Byte) (s : State) : (latch v p id s).curProto = p := rfl
@[simp] theorem latch_curId (v : Word) (p : Proto) (id : Byte) (s : State) : (latch v p id s).curId = id := rfl
@[simp] theorem latch_curRx (v : Word) (p : Proto) (id : Byte) (s : State) : (latch v p id s).curRx = s.curRx := rfl
@[simp] theorem latch_curCollect (v : Word) (p : Proto) (id : Byte) (s : State) : (latch v p id s).curCollect = cmdCollect v := rfl
@[simp] theorem latch_txq (v : Word) (p : Proto) (id : Byte) (s : State) : (latch v p id s).txq = s.txq := rfl
@[simp] theorem latch_rxbuf (v : Word) (p : Proto) (id : Byte) (s : State) : (latch v p id s).rxbuf = [] := rfl
@[simp] theorem latch_elapsed (v : Word) (p : Proto) (id : Byte) (s : State) : (latch v p id s).elapsed = s.elapsed := rfl
@[simp] theorem latch_budget (v : Word) (p : Proto) (id : Byte) (s : State) : (latch v p id s).budget = requestBudget s := rfl
@[simp] theorem latch_cfg (v : Word) (p : Proto) (id : Byte) (s : State) : (latch v p id s).cfg = s.cfg := rfl
@[simp] theorem latch_cmd (v : Word) (p : Proto) (id : Byte) (s : State) : (latch v p id s).cmd = s.cmd := rfl
@[simp] theorem latch_rdata (v : Word) (p : Proto) (id : Byte) (s : State) : (latch v p id s).rdata = s.rdata := rfl
@[simp] theorem latch_free (v : Word) (p : Proto) (id : Byte) (s : State) : (latch v p id s).free = s.free := rfl
@[simp] theorem latch_events (v : Word) (p : Proto) (id : Byte) (s : State) : (latch v p id s).events = s.events := rfl
@[simp] theorem latch_out (v : Word) (p : Proto) (id : Byte) (s : State) : (latch v p id s).out = s.out := rfl

@[simp] theorem harvest_proto (s : State) : (harvest s).proto = s.proto := rfl
@[simp] theorem harvest_irqEn (s : State) : (harvest s).irqEn = s.irqEn := rfl
@[simp] theorem harvest_done (s : State) : (harvest s).done = s.done := rfl
@[simp] theorem harvest_busyReject (s : State) : (harvest s).busyReject = s.busyReject := rfl
@[simp] theorem harvest_corruptSeen (s : State) : (harvest s).corruptSeen = s.corruptSeen := rfl
@[simp] theorem harvest_idmissSeen (s : State) : (harvest s).idmissSeen = s.idmissSeen := rfl
@[simp] theorem harvest_reqId (s : State) : (harvest s).reqId = s.reqId := rfl
@[simp] theorem harvest_reqInstr (s : State) : (harvest s).reqInstr = s.reqInstr := rfl
@[simp] theorem harvest_reqPlen (s : State) : (harvest s).reqPlen = s.reqPlen := rfl
@[simp] theorem harvest_reqRxlen (s : State) : (harvest s).reqRxlen = s.reqRxlen := rfl
@[simp] theorem harvest_tLat (s : State) : (harvest s).tLat = s.tLat := rfl
@[simp] theorem harvest_tByte (s : State) : (harvest s).tByte = s.tByte := rfl
@[simp] theorem harvest_tSlack (s : State) : (harvest s).tSlack = s.tSlack := rfl
@[simp] theorem harvest_result (s : State) : (harvest s).result = s.result := rfl
@[simp] theorem harvest_resId (s : State) : (harvest s).resId = s.resId := rfl
@[simp] theorem harvest_resErr (s : State) : (harvest s).resErr = s.resErr := rfl
@[simp] theorem harvest_resPlen (s : State) : (harvest s).resPlen = s.resPlen := rfl
@[simp] theorem harvest_idmap (s : State) : (harvest s).idmap = s.idmap := rfl
@[simp] theorem harvest_idcount (s : State) : (harvest s).idcount = s.idcount := rfl
@[simp] theorem harvest_mem (s : State) : (harvest s).mem = s.mem := rfl
@[simp] theorem harvest_phase (s : State) : (harvest s).phase = .rx := rfl
@[simp] theorem harvest_curProto (s : State) : (harvest s).curProto = s.curProto := rfl
@[simp] theorem harvest_curId (s : State) : (harvest s).curId = s.curId := rfl
@[simp] theorem harvest_curRx (s : State) : (harvest s).curRx = true := rfl
@[simp] theorem harvest_curCollect (s : State) : (harvest s).curCollect = s.curCollect := rfl
@[simp] theorem harvest_txq (s : State) : (harvest s).txq = s.txq := rfl
@[simp] theorem harvest_rxbuf (s : State) : (harvest s).rxbuf = s.rxbuf := rfl
@[simp] theorem harvest_elapsed (s : State) : (harvest s).elapsed = 0 := rfl
@[simp] theorem harvest_budget (s : State) : (harvest s).budget = s.budget := rfl
@[simp] theorem harvest_cfg (s : State) : (harvest s).cfg = s.cfg := rfl
@[simp] theorem harvest_cmd (s : State) : (harvest s).cmd = s.cmd := rfl
@[simp] theorem harvest_rdata (s : State) : (harvest s).rdata = s.rdata := rfl
@[simp] theorem harvest_free (s : State) : (harvest s).free = s.free := rfl
@[simp] theorem harvest_events (s : State) : (harvest s).events = s.events := rfl
@[simp] theorem harvest_out (s : State) : (harvest s).out = s.out := rfl

@[simp] theorem afterFetch_proto (v : Word) (s : State) : (afterFetch v s).proto = s.proto := rfl
@[simp] theorem afterFetch_irqEn (v : Word) (s : State) : (afterFetch v s).irqEn = s.irqEn := rfl
@[simp] theorem afterFetch_done (v : Word) (s : State) : (afterFetch v s).done = s.done := rfl
@[simp] theorem afterFetch_busyReject (v : Word) (s : State) : (afterFetch v s).busyReject = s.busyReject := rfl
@[simp] theorem afterFetch_corruptSeen (v : Word) (s : State) : (afterFetch v s).corruptSeen = s.corruptSeen := rfl
@[simp] theorem afterFetch_idmissSeen (v : Word) (s : State) : (afterFetch v s).idmissSeen = s.idmissSeen := rfl
@[simp] theorem afterFetch_reqId (v : Word) (s : State) : (afterFetch v s).reqId = s.reqId := rfl
@[simp] theorem afterFetch_reqInstr (v : Word) (s : State) : (afterFetch v s).reqInstr = s.reqInstr := rfl
@[simp] theorem afterFetch_reqPlen (v : Word) (s : State) : (afterFetch v s).reqPlen = s.reqPlen := rfl
@[simp] theorem afterFetch_reqRxlen (v : Word) (s : State) : (afterFetch v s).reqRxlen = s.reqRxlen := rfl
@[simp] theorem afterFetch_tLat (v : Word) (s : State) : (afterFetch v s).tLat = s.tLat := rfl
@[simp] theorem afterFetch_tByte (v : Word) (s : State) : (afterFetch v s).tByte = s.tByte := rfl
@[simp] theorem afterFetch_tSlack (v : Word) (s : State) : (afterFetch v s).tSlack = s.tSlack := rfl
@[simp] theorem afterFetch_result (v : Word) (s : State) : (afterFetch v s).result = s.result := rfl
@[simp] theorem afterFetch_resId (v : Word) (s : State) : (afterFetch v s).resId = s.resId := rfl
@[simp] theorem afterFetch_resErr (v : Word) (s : State) : (afterFetch v s).resErr = s.resErr := rfl
@[simp] theorem afterFetch_resPlen (v : Word) (s : State) : (afterFetch v s).resPlen = s.resPlen := rfl
@[simp] theorem afterFetch_idmap (v : Word) (s : State) : (afterFetch v s).idmap = s.idmap := rfl
@[simp] theorem afterFetch_idcount (v : Word) (s : State) : (afterFetch v s).idcount = s.idcount := rfl
@[simp] theorem afterFetch_mem (v : Word) (s : State) : (afterFetch v s).mem = s.mem := rfl
@[simp] theorem afterFetch_phase (v : Word) (s : State) : (afterFetch v s).phase = s.phase := rfl
@[simp] theorem afterFetch_curProto (v : Word) (s : State) : (afterFetch v s).curProto = s.curProto := rfl
@[simp] theorem afterFetch_curId (v : Word) (s : State) : (afterFetch v s).curId = s.curId := rfl
@[simp] theorem afterFetch_curRx (v : Word) (s : State) : (afterFetch v s).curRx = s.curRx := rfl
@[simp] theorem afterFetch_curCollect (v : Word) (s : State) : (afterFetch v s).curCollect = s.curCollect := rfl
@[simp] theorem afterFetch_txq (v : Word) (s : State) : (afterFetch v s).txq = s.txq := rfl
@[simp] theorem afterFetch_rxbuf (v : Word) (s : State) : (afterFetch v s).rxbuf = s.rxbuf := rfl
@[simp] theorem afterFetch_elapsed (v : Word) (s : State) : (afterFetch v s).elapsed = s.elapsed := rfl
@[simp] theorem afterFetch_budget (v : Word) (s : State) : (afterFetch v s).budget = s.budget := rfl
@[simp] theorem afterFetch_cfg (v : Word) (s : State) : (afterFetch v s).cfg = s.cfg := rfl
@[simp] theorem afterFetch_cmd (v : Word) (s : State) : (afterFetch v s).cmd = v := rfl
@[simp] theorem afterFetch_rdata (v : Word) (s : State) : (afterFetch v s).rdata = s.rdata := rfl
@[simp] theorem afterFetch_free (v : Word) (s : State) : (afterFetch v s).free = s.free + s.reqPlen.toNat := rfl
@[simp] theorem afterFetch_events (v : Word) (s : State) : (afterFetch v s).events = s.events := rfl
@[simp] theorem afterFetch_out (v : Word) (s : State) : (afterFetch v s).out = s.out := rfl

@[simp] theorem hostRead_proto (a n : Nat) (s : State) : (hostRead a n s).proto = s.proto := rfl
@[simp] theorem hostRead_irqEn (a n : Nat) (s : State) : (hostRead a n s).irqEn = s.irqEn := rfl
@[simp] theorem hostRead_done (a n : Nat) (s : State) : (hostRead a n s).done = s.done := rfl
@[simp] theorem hostRead_busyReject (a n : Nat) (s : State) : (hostRead a n s).busyReject = s.busyReject := rfl
@[simp] theorem hostRead_corruptSeen (a n : Nat) (s : State) : (hostRead a n s).corruptSeen = s.corruptSeen := rfl
@[simp] theorem hostRead_idmissSeen (a n : Nat) (s : State) : (hostRead a n s).idmissSeen = s.idmissSeen := rfl
@[simp] theorem hostRead_reqId (a n : Nat) (s : State) : (hostRead a n s).reqId = s.reqId := rfl
@[simp] theorem hostRead_reqInstr (a n : Nat) (s : State) : (hostRead a n s).reqInstr = s.reqInstr := rfl
@[simp] theorem hostRead_reqPlen (a n : Nat) (s : State) : (hostRead a n s).reqPlen = s.reqPlen := rfl
@[simp] theorem hostRead_reqRxlen (a n : Nat) (s : State) : (hostRead a n s).reqRxlen = s.reqRxlen := rfl
@[simp] theorem hostRead_tLat (a n : Nat) (s : State) : (hostRead a n s).tLat = s.tLat := rfl
@[simp] theorem hostRead_tByte (a n : Nat) (s : State) : (hostRead a n s).tByte = s.tByte := rfl
@[simp] theorem hostRead_tSlack (a n : Nat) (s : State) : (hostRead a n s).tSlack = s.tSlack := rfl
@[simp] theorem hostRead_result (a n : Nat) (s : State) : (hostRead a n s).result = s.result := rfl
@[simp] theorem hostRead_resId (a n : Nat) (s : State) : (hostRead a n s).resId = s.resId := rfl
@[simp] theorem hostRead_resErr (a n : Nat) (s : State) : (hostRead a n s).resErr = s.resErr := rfl
@[simp] theorem hostRead_resPlen (a n : Nat) (s : State) : (hostRead a n s).resPlen = s.resPlen := rfl
@[simp] theorem hostRead_idmap (a n : Nat) (s : State) : (hostRead a n s).idmap = s.idmap := rfl
@[simp] theorem hostRead_idcount (a n : Nat) (s : State) : (hostRead a n s).idcount = s.idcount := rfl
@[simp] theorem hostRead_mem (a n : Nat) (s : State) : (hostRead a n s).mem = s.mem := rfl
@[simp] theorem hostRead_phase (a n : Nat) (s : State) : (hostRead a n s).phase = s.phase := rfl
@[simp] theorem hostRead_curProto (a n : Nat) (s : State) : (hostRead a n s).curProto = s.curProto := rfl
@[simp] theorem hostRead_curId (a n : Nat) (s : State) : (hostRead a n s).curId = s.curId := rfl
@[simp] theorem hostRead_curRx (a n : Nat) (s : State) : (hostRead a n s).curRx = s.curRx := rfl
@[simp] theorem hostRead_curCollect (a n : Nat) (s : State) : (hostRead a n s).curCollect = s.curCollect := rfl
@[simp] theorem hostRead_txq (a n : Nat) (s : State) : (hostRead a n s).txq = s.txq := rfl
@[simp] theorem hostRead_rxbuf (a n : Nat) (s : State) : (hostRead a n s).rxbuf = s.rxbuf := rfl
@[simp] theorem hostRead_elapsed (a n : Nat) (s : State) : (hostRead a n s).elapsed = s.elapsed := rfl
@[simp] theorem hostRead_budget (a n : Nat) (s : State) : (hostRead a n s).budget = s.budget := rfl
@[simp] theorem hostRead_cfg (a n : Nat) (s : State) : (hostRead a n s).cfg = s.cfg := rfl
@[simp] theorem hostRead_cmd (a n : Nat) (s : State) : (hostRead a n s).cmd = s.cmd := rfl
@[simp] theorem hostRead_rdata (a n : Nat) (s : State) : (hostRead a n s).rdata = readValue s a n := rfl
@[simp] theorem hostRead_free (a n : Nat) (s : State) : (hostRead a n s).free = s.free + n := rfl
@[simp] theorem hostRead_events (a n : Nat) (s : State) : (hostRead a n s).events = s.events := rfl
@[simp] theorem hostRead_out (a n : Nat) (s : State) : (hostRead a n s).out = s.out := rfl

@[simp] theorem writeTxp_proto (i : Nat) (bs : List Byte) (s : State) : (writeTxp i bs s).proto = s.proto := rfl
@[simp] theorem writeTxp_irqEn (i : Nat) (bs : List Byte) (s : State) : (writeTxp i bs s).irqEn = s.irqEn := rfl
@[simp] theorem writeTxp_done (i : Nat) (bs : List Byte) (s : State) : (writeTxp i bs s).done = s.done := rfl
@[simp] theorem writeTxp_busyReject (i : Nat) (bs : List Byte) (s : State) : (writeTxp i bs s).busyReject = s.busyReject := rfl
@[simp] theorem writeTxp_corruptSeen (i : Nat) (bs : List Byte) (s : State) : (writeTxp i bs s).corruptSeen = s.corruptSeen := rfl
@[simp] theorem writeTxp_idmissSeen (i : Nat) (bs : List Byte) (s : State) : (writeTxp i bs s).idmissSeen = s.idmissSeen := rfl
@[simp] theorem writeTxp_reqId (i : Nat) (bs : List Byte) (s : State) : (writeTxp i bs s).reqId = s.reqId := rfl
@[simp] theorem writeTxp_reqInstr (i : Nat) (bs : List Byte) (s : State) : (writeTxp i bs s).reqInstr = s.reqInstr := rfl
@[simp] theorem writeTxp_reqPlen (i : Nat) (bs : List Byte) (s : State) : (writeTxp i bs s).reqPlen = s.reqPlen := rfl
@[simp] theorem writeTxp_reqRxlen (i : Nat) (bs : List Byte) (s : State) : (writeTxp i bs s).reqRxlen = s.reqRxlen := rfl
@[simp] theorem writeTxp_tLat (i : Nat) (bs : List Byte) (s : State) : (writeTxp i bs s).tLat = s.tLat := rfl
@[simp] theorem writeTxp_tByte (i : Nat) (bs : List Byte) (s : State) : (writeTxp i bs s).tByte = s.tByte := rfl
@[simp] theorem writeTxp_tSlack (i : Nat) (bs : List Byte) (s : State) : (writeTxp i bs s).tSlack = s.tSlack := rfl
@[simp] theorem writeTxp_result (i : Nat) (bs : List Byte) (s : State) : (writeTxp i bs s).result = s.result := rfl
@[simp] theorem writeTxp_resId (i : Nat) (bs : List Byte) (s : State) : (writeTxp i bs s).resId = s.resId := rfl
@[simp] theorem writeTxp_resErr (i : Nat) (bs : List Byte) (s : State) : (writeTxp i bs s).resErr = s.resErr := rfl
@[simp] theorem writeTxp_resPlen (i : Nat) (bs : List Byte) (s : State) : (writeTxp i bs s).resPlen = s.resPlen := rfl
@[simp] theorem writeTxp_idmap (i : Nat) (bs : List Byte) (s : State) : (writeTxp i bs s).idmap = s.idmap := rfl
@[simp] theorem writeTxp_idcount (i : Nat) (bs : List Byte) (s : State) : (writeTxp i bs s).idcount = s.idcount := rfl
@[simp] theorem writeTxp_mem (i : Nat) (bs : List Byte) (s : State) : (writeTxp i bs s).mem = s.mem.writeList (txpBase + i) (bs.take (txpCap s.cfg - i)) := rfl
@[simp] theorem writeTxp_phase (i : Nat) (bs : List Byte) (s : State) : (writeTxp i bs s).phase = s.phase := rfl
@[simp] theorem writeTxp_curProto (i : Nat) (bs : List Byte) (s : State) : (writeTxp i bs s).curProto = s.curProto := rfl
@[simp] theorem writeTxp_curId (i : Nat) (bs : List Byte) (s : State) : (writeTxp i bs s).curId = s.curId := rfl
@[simp] theorem writeTxp_curRx (i : Nat) (bs : List Byte) (s : State) : (writeTxp i bs s).curRx = s.curRx := rfl
@[simp] theorem writeTxp_curCollect (i : Nat) (bs : List Byte) (s : State) : (writeTxp i bs s).curCollect = s.curCollect := rfl
@[simp] theorem writeTxp_txq (i : Nat) (bs : List Byte) (s : State) : (writeTxp i bs s).txq = s.txq := rfl
@[simp] theorem writeTxp_rxbuf (i : Nat) (bs : List Byte) (s : State) : (writeTxp i bs s).rxbuf = s.rxbuf := rfl
@[simp] theorem writeTxp_elapsed (i : Nat) (bs : List Byte) (s : State) : (writeTxp i bs s).elapsed = s.elapsed := rfl
@[simp] theorem writeTxp_budget (i : Nat) (bs : List Byte) (s : State) : (writeTxp i bs s).budget = s.budget := rfl
@[simp] theorem writeTxp_cfg (i : Nat) (bs : List Byte) (s : State) : (writeTxp i bs s).cfg = s.cfg := rfl
@[simp] theorem writeTxp_cmd (i : Nat) (bs : List Byte) (s : State) : (writeTxp i bs s).cmd = s.cmd := rfl
@[simp] theorem writeTxp_rdata (i : Nat) (bs : List Byte) (s : State) : (writeTxp i bs s).rdata = s.rdata := rfl
@[simp] theorem writeTxp_free (i : Nat) (bs : List Byte) (s : State) : (writeTxp i bs s).free = s.free := rfl
@[simp] theorem writeTxp_events (i : Nat) (bs : List Byte) (s : State) : (writeTxp i bs s).events = s.events := rfl
@[simp] theorem writeTxp_out (i : Nat) (bs : List Byte) (s : State) : (writeTxp i bs s).out = s.out := rfl

end Sys2Proof.Machine
end

