-- ==== Sys2Proof/Laws/Start.lean ====
section
/-! SUPPORT. What the START step can do, said once. -/

namespace Sys2Proof.Machine

/-- Handing the request to the transmit phase: refused by `EncodeReq`, too large, or a frame queued. -/
theorem transmit_cases (v : Word) (p : Proto) (id b : Byte) (ps : List Byte) (s : State) :
    (encodeReq s.cfg p id b ps = .notAvailable ∧ transmit v p id b ps s = complete .notAvailable (emit .flush s)) ∨
    (encodeReq s.cfg p id b ps = .txError ∧ transmit v p id b ps s = complete .txError (emit .flush s)) ∨
    (∃ f, encodeReq s.cfg p id b ps = .frame f ∧
      transmit v p id b ps s =
        { emit .flush s with txq := f, curRx := receiveFollows v id (instrOf s.cfg.opc b), phase := .tx }) := by
  unfold transmit
  cases h : encodeReq s.cfg p id b ps with
  | notAvailable => exact .inl ⟨rfl, rfl⟩
  | txError => exact .inr (.inl ⟨rfl, rfl⟩)
  | frame f => exact .inr (.inr ⟨f, rfl, rfl⟩)

/-- START: port busy, refused before the latch, transmitting, or receiving. -/
theorem start_cases (v : Word) (p : Proto) (id b : Byte) (ps : List Byte) (s : State) :
    (s.phase ≠ .idle ∧ start v p id b ps s = portBusy s) ∨
    (s.phase = .idle ∧ (legalCommand v = false ∨ targetRefused v p id (instrOf s.cfg.opc b) = true) ∧
      start v p id b ps s = complete .notAvailable (clearForStart s)) ∨
    (s.phase = .idle ∧ legalCommand v = true ∧ targetRefused v p id (instrOf s.cfg.opc b) = false ∧ cmdTx v = true ∧
      start v p id b ps s = transmit v p id b ps (latch v p id (clearForStart s))) ∨
    (s.phase = .idle ∧ legalCommand v = true ∧ targetRefused v p id (instrOf s.cfg.opc b) = false ∧ cmdTx v = false ∧
      start v p id b ps s = harvest (latch v p id (clearForStart s))) := by
  unfold start
  by_cases h1 : s.phase = .idle
  · cases h2 : legalCommand v
    · exact .inr (.inl ⟨h1, .inl rfl, by simp [h1]⟩)
    · cases h3 : targetRefused v p id (instrOf s.cfg.opc b)
      · cases h4 : cmdTx v
        · exact .inr (.inr (.inr ⟨h1, rfl, rfl, rfl, by simp [h1]⟩))
        · exact .inr (.inr (.inl ⟨h1, rfl, rfl, rfl, by simp [h1]⟩))
      · exact .inr (.inl ⟨h1, .inr rfl, by simp [h1]⟩)
  · exact .inl ⟨h1, by simp [h1]⟩

/-- A wire instruction's meaning is the START step that carries it. -/
theorem carried_eq (p : Proto) (i : WireInstr) (id : Byte) (ps : List Byte) (s : State) :
    carried p i id ps s = .next (carry p i id ps s) := by cases p <;> cases i <;> rfl

/-- The dispatch runs a wire instruction by that meaning. -/
theorem exec_ofRequest (p : Proto) (i : WireInstr) (id : Byte) (ps : List Byte) (s : State) :
    exec (Instr.ofRequest p i id ps) s = carried p i id ps s := by cases p <;> cases i <;> rfl

/-- A START that reads its request: port busy, or the START step on the registers. -/
theorem startFetched_cases (v : Word) (s : State) :
    (s.phase ≠ .idle ∧ startFetched v s = .next (portBusy s)) ∨
    (s.phase = .idle ∧
      startFetched v s = .next (start v s.proto s.reqId s.reqInstr (requestParams s) (afterFetch v s))) := by
  unfold startFetched
  by_cases h : s.phase = .idle
  · refine .inr ⟨h, ?_⟩
    simp only [h, ne_eq, not_true_eq_false, if_false]
    cases hi : requestInstr s with
    | none => rfl
    | some i =>
      simp only [carried_eq, carry, afterFetch_cfg, afterFetch_cmd]
      rw [opcByte_of_instrOf hi]
  · exact .inl ⟨h, by simp [h]⟩

/-- A START that reads no parameters: port busy, or the START step. -/
theorem startUnfetched_cases (v : Word) (s : State) :
    (s.phase ≠ .idle ∧ startUnfetched v s = .next (portBusy s)) ∨
    (s.phase = .idle ∧ startUnfetched v s = .next (start v s.proto s.reqId s.reqInstr [] { s with cmd := v })) := by
  unfold startUnfetched
  by_cases h : s.phase = .idle
  · exact .inr ⟨h, by simp [h]⟩
  · exact .inl ⟨h, by simp [h]⟩

end Sys2Proof.Machine
end

