-- ==== Sys2Proof/Laws/Events.lean ====
section
/-! SUPPORT. What the transport's events and a START event can do, said once each. -/

namespace Sys2Proof.Machine

/-- A START event: port busy, or the START step on the request registers, with parameters exactly where it may transmit. -/
theorem startEvent_cases (v : Word) (s : State) :
    (s.phase ≠ .idle ∧ startEvent v s = .next (portBusy s)) ∨
    (s.phase = .idle ∧ (v = 1 ∨ v = 3 ∨ v = 7) ∧
      startEvent v s = .next (start v s.proto s.reqId s.reqInstr (requestParams s) (afterFetch v s))) ∨
    (s.phase = .idle ∧ v ≠ 1 ∧ v ≠ 3 ∧ v ≠ 7 ∧
      startEvent v s = .next (start v s.proto s.reqId s.reqInstr [] { s with cmd := v })) := by
  by_cases h1 : v = 1
  · subst h1
    rcases startFetched_cases 1 s with ⟨h, e⟩ | ⟨h, e⟩
    · exact .inl ⟨h, e⟩
    · exact .inr (.inl ⟨h, .inl rfl, e⟩)
  by_cases h3 : v = 3
  · subst h3
    rcases startFetched_cases 3 s with ⟨h, e⟩ | ⟨h, e⟩
    · exact .inl ⟨h, e⟩
    · exact .inr (.inl ⟨h, .inr (.inl rfl), e⟩)
  by_cases h7 : v = 7
  · subst h7
    rcases startFetched_cases 7 s with ⟨h, e⟩ | ⟨h, e⟩
    · exact .inl ⟨h, e⟩
    · exact .inr (.inl ⟨h, .inr (.inr rfl), e⟩)
  have key : startEvent v s = startUnfetched v s := by
    by_cases h2 : v = 2
    · subst h2; rfl
    · have hd : decodeCmd v = .error .illegalCommand := by
        rw [decodeCmd, if_neg h1, if_neg h2, if_neg h3, if_neg h7]
      simp only [startEvent, hd, startIllegal]
  rcases startUnfetched_cases v s with ⟨h, e⟩ | ⟨h, e⟩
  · exact .inl ⟨h, key.trans e⟩
  · exact .inr (.inr ⟨h, h1, h3, h7, key.trans e⟩)

/-- `TxAccept`: a byte leaves and bytes remain, the receive phase begins, the request ends, or nothing is presented. -/
theorem txAccept_cases (s : State) :
    (∃ b rest, s.phase = .tx ∧ s.txq = b :: rest ∧ rest ≠ [] ∧
      txAccept s = emit (.txByte b) { s with txq := rest }) ∨
    (∃ b, s.phase = .tx ∧ s.txq = [b] ∧ s.curRx = true ∧
      txAccept s = { emit (.txByte b) { s with txq := [] } with elapsed := 0, phase := .rx }) ∨
    (∃ b, s.phase = .tx ∧ s.txq = [b] ∧ s.curRx = false ∧
      txAccept s = completeWith s.curId 0 [] (emit (.txByte b) { s with txq := [] })) ∨
    ((s.phase ≠ .tx ∨ s.txq = []) ∧ txAccept s = s) := by
  unfold txAccept
  cases hp : s.phase with
  | idle => exact .inr (.inr (.inr ⟨.inl (by simp), rfl⟩))
  | rx => exact .inr (.inr (.inr ⟨.inl (by simp), rfl⟩))
  | tx =>
    cases hq : s.txq with
    | nil => exact .inr (.inr (.inr ⟨.inr rfl, rfl⟩))
    | cons b rest =>
      by_cases hr : rest = []
      · subst hr
        cases hc : s.curRx
        · exact .inr (.inr (.inl ⟨b, rfl, rfl, rfl, by simp⟩))
        · exact .inr (.inl ⟨b, rfl, rfl, rfl, by simp⟩)
      · exact .inl ⟨b, rest, rfl, rfl, hr, by simp [hr]⟩

/-- `TxRefuse`: the request fails, or nothing is presented. -/
theorem txRefuse_cases (s : State) :
    (s.phase = .tx ∧ txRefuse s = complete .txFail s) ∨ (s.phase ≠ .tx ∧ txRefuse s = s) := by
  unfold txRefuse
  cases s.phase <;> simp

/-- `RxByte`: by the scanner's verdict, or nothing outside the receive phase. -/
theorem rxByte_cases (b : Byte) (s : State) :
    (∃ k, s.phase = .rx ∧ scan s.cfg s.curProto (s.rxbuf ++ [b]) = .needMore k ∧
      rxByte b s = { s with rxbuf := k }) ∨
    (s.phase = .rx ∧ scan s.cfg s.curProto (s.rxbuf ++ [b]) = .corrupt ∧
      rxByte b s = { s with rxbuf := [], corruptSeen := true }) ∨
    (∃ id ie ps rest, s.phase = .rx ∧ scan s.cfg s.curProto (s.rxbuf ++ [b]) = .frame id ie ps rest ∧
      s.curCollect = true ∧
      rxByte b s = collectFrame id (statusView s.cfg s.curProto ie ps) { s with rxbuf := rest }) ∨
    (∃ id ie ps rest, s.phase = .rx ∧ scan s.cfg s.curProto (s.rxbuf ++ [b]) = .frame id ie ps rest ∧
      s.curCollect = false ∧
      rxByte b s = responseFrame id (statusView s.cfg s.curProto ie ps) { s with rxbuf := rest }) ∨
    (s.phase ≠ .rx ∧ rxByte b s = s) := by
  unfold rxByte
  cases hp : s.phase with
  | idle => simp
  | tx => simp
  | rx =>
    cases hs : scan s.cfg s.curProto (s.rxbuf ++ [b]) with
    | needMore k => exact .inl ⟨k, rfl, rfl, rfl⟩
    | corrupt => exact .inr (.inl ⟨rfl, rfl, rfl⟩)
    | frame id ie ps rest =>
      cases hc : s.curCollect
      · exact .inr (.inr (.inr (.inl ⟨id, ie, ps, rest, rfl, rfl, rfl, by simp⟩)))
      · exact .inr (.inr (.inl ⟨id, ie, ps, rest, rfl, rfl, rfl, by simp⟩))

/-- A frame outside collect mode: accepted or discarded. -/
theorem responseFrame_cases (id : Byte) (sv : Option Status) (s : State) :
    (∃ st, sv = some st ∧ id = s.curId ∧ responseFrame id sv s = completeWith id st.err st.data s) ∨
    ((sv = none ∨ id ≠ s.curId) ∧ responseFrame id sv s = { s with idmissSeen := true }) := by
  unfold responseFrame
  cases sv with
  | none => exact .inr ⟨.inl rfl, rfl⟩
  | some st =>
    by_cases h : id = s.curId
    · exact .inl ⟨st, rfl, h, by simp [h]⟩
    · exact .inr ⟨.inr h, by simp [h]⟩

/-- A frame in collect mode: recorded or discarded. -/
theorem collectFrame_cases (id : Byte) (sv : Option Status) (s : State) :
    (sv.isSome = true ∧ addressableId id = true ∧ collectFrame id sv s = recordId id s) ∨
    ((sv.isSome = false ∨ addressableId id = false) ∧ collectFrame id sv s = { s with idmissSeen := true }) := by
  unfold collectFrame
  cases h1 : sv.isSome <;> cases h2 : addressableId id <;> simp

/-- `Tick`: the receive phase goes on, or it ends with what was collected or with a timeout; nothing outside it. -/
theorem tick_cases (s : State) :
    (s.phase = .rx ∧ ¬ s.budget < satTW (s.elapsed.toNat + 1) ∧
      tick s = { s with elapsed := satTW (s.elapsed.toNat + 1) }) ∨
    (s.phase = .rx ∧ s.budget < satTW (s.elapsed.toNat + 1) ∧ s.curCollect = true ∧ 0 < s.idcount.toNat ∧
      tick s = completeWith s.curId 0 [] { s with elapsed := satTW (s.elapsed.toNat + 1) }) ∨
    (s.phase = .rx ∧ s.budget < satTW (s.elapsed.toNat + 1) ∧ ¬ (s.curCollect = true ∧ 0 < s.idcount.toNat) ∧
      tick s = complete .rxTimeout { s with elapsed := satTW (s.elapsed.toNat + 1) }) ∨
    (s.phase ≠ .rx ∧ tick s = s) := by
  unfold tick
  cases hp : s.phase with
  | idle => simp
  | tx => simp
  | rx =>
    by_cases h1 : s.budget < satTW (s.elapsed.toNat + 1)
    · by_cases h2 : s.curCollect = true ∧ 0 < s.idcount.toNat
      · exact .inr (.inl ⟨rfl, h1, h2.1, h2.2, by simp [h1, h2]⟩)
      · exact .inr (.inr (.inl ⟨rfl, h1, h2, by simp only [h1, h2, if_true, if_false]⟩))
    · exact .inl ⟨rfl, h1, by simp [h1]⟩

/-- A host write that is no START changes the registers the host may write, two flags and `TXP`, and nothing else. -/
theorem hostWrite_cases (a n : Nat) (v : Word) (s : State) :
    (∃ r, hostWrite a n v s = writeReg r v s) ∨ (∃ i, hostWrite a n v s = writeTxp i (leBytes n v.toNat) s) ∨
      hostWrite a n v s = s := by
  unfold hostWrite
  cases accessTarget a n with
  | none => exact .inr (.inr rfl)
  | some t =>
    cases t with
    | reg a =>
      cases h : regAt a with
      | none => exact .inr (.inr (by simp [h]))
      | some r => exact .inl ⟨r, by simp [h]⟩
    | txp i => exact .inr (.inl ⟨i, rfl⟩)
    | rxp i => exact .inr (.inr rfl)

/-- A step takes the first event, or nothing happens. -/
theorem step_cases (s : State) :
    (s.events = [] ∧ step s = .next s) ∨
      (∃ e es, s.events = e :: es ∧ step s = perform e { s with events := es }) := by
  unfold step nextStep
  cases h : s.events with
  | nil => exact .inl ⟨rfl, rfl⟩
  | cons e es => exact .inr ⟨e, es, rfl, rfl⟩

end Sys2Proof.Machine
end

