-- ==== Sys2Proof/Laws/PerInstr.lean ====
section
/-! SUPPORT. A fact of every instruction as syntax: how many bytes its encoding has. -/

namespace Sys2Proof

/-- The length of an instruction's encoding: the frame's (`41_encode.md` R151, R154), or the four bytes of a `CMD` value. -/
def Laws.encodedLength (i : Instr) : Nat :=
  match i.request? with
  | some r => Machine.frameLength r.proto r.params
  | none => 4

theorem Machine.frame_length (c : Config) (p : Proto) (id ie : Byte) (ps : List Byte) :
    (Machine.frame c p id ie ps).length = Machine.frameLength p ps := by
  cases p <;> simp [Machine.frame, Machine.frameP1, Machine.frameP2, Machine.frameLength]

/-- The encoding of `i` has that many bytes under every configuration. -/
def Laws.EncodeLength.Statement (i : Instr) : Prop := ∀ c : Config, (encode c i).length = Laws.encodedLength i

/-- It holds of every wire instruction by the length of its frame. -/
theorem Laws.encodeLength_of_request {i : Instr} {r : Request} (h : i.request? = some r) :
    Laws.EncodeLength.Statement i := fun c => by
  simp only [encode, Laws.encodedLength, h, Machine.frame_length]

theorem Laws.EncodeLength.pingP1 (id : Byte) (params : List Byte) : Laws.EncodeLength.Statement (.pingP1 id params) :=
  Laws.encodeLength_of_request rfl

theorem Laws.EncodeLength.readP1 (id : Byte) (params : List Byte) : Laws.EncodeLength.Statement (.readP1 id params) :=
  Laws.encodeLength_of_request rfl

theorem Laws.EncodeLength.writeP1 (id : Byte) (params : List Byte) : Laws.EncodeLength.Statement (.writeP1 id params) :=
  Laws.encodeLength_of_request rfl

theorem Laws.EncodeLength.regWriteP1 (id : Byte) (params : List Byte) : Laws.EncodeLength.Statement (.regWriteP1 id params) :=
  Laws.encodeLength_of_request rfl

theorem Laws.EncodeLength.actionP1 (id : Byte) (params : List Byte) : Laws.EncodeLength.Statement (.actionP1 id params) :=
  Laws.encodeLength_of_request rfl

theorem Laws.EncodeLength.factoryResetP1 (id : Byte) (params : List Byte) : Laws.EncodeLength.Statement (.factoryResetP1 id params) :=
  Laws.encodeLength_of_request rfl

theorem Laws.EncodeLength.rebootP1 (id : Byte) (params : List Byte) : Laws.EncodeLength.Statement (.rebootP1 id params) :=
  Laws.encodeLength_of_request rfl

theorem Laws.EncodeLength.syncReadP1 (id : Byte) (params : List Byte) : Laws.EncodeLength.Statement (.syncReadP1 id params) :=
  Laws.encodeLength_of_request rfl

theorem Laws.EncodeLength.syncWriteP1 (id : Byte) (params : List Byte) : Laws.EncodeLength.Statement (.syncWriteP1 id params) :=
  Laws.encodeLength_of_request rfl

theorem Laws.EncodeLength.bulkReadP1 (id : Byte) (params : List Byte) : Laws.EncodeLength.Statement (.bulkReadP1 id params) :=
  Laws.encodeLength_of_request rfl

theorem Laws.EncodeLength.bulkWriteP1 (id : Byte) (params : List Byte) : Laws.EncodeLength.Statement (.bulkWriteP1 id params) :=
  Laws.encodeLength_of_request rfl

theorem Laws.EncodeLength.statusP1 (id : Byte) (params : List Byte) : Laws.EncodeLength.Statement (.statusP1 id params) :=
  Laws.encodeLength_of_request rfl

theorem Laws.EncodeLength.pingP2 (id : Byte) (params : List Byte) : Laws.EncodeLength.Statement (.pingP2 id params) :=
  Laws.encodeLength_of_request rfl

theorem Laws.EncodeLength.readP2 (id : Byte) (params : List Byte) : Laws.EncodeLength.Statement (.readP2 id params) :=
  Laws.encodeLength_of_request rfl

theorem Laws.EncodeLength.writeP2 (id : Byte) (params : List Byte) : Laws.EncodeLength.Statement (.writeP2 id params) :=
  Laws.encodeLength_of_request rfl

theorem Laws.EncodeLength.regWriteP2 (id : Byte) (params : List Byte) : Laws.EncodeLength.Statement (.regWriteP2 id params) :=
  Laws.encodeLength_of_request rfl

theorem Laws.EncodeLength.actionP2 (id : Byte) (params : List Byte) : Laws.EncodeLength.Statement (.actionP2 id params) :=
  Laws.encodeLength_of_request rfl

theorem Laws.EncodeLength.factoryResetP2 (id : Byte) (params : List Byte) : Laws.EncodeLength.Statement (.factoryResetP2 id params) :=
  Laws.encodeLength_of_request rfl

theorem Laws.EncodeLength.rebootP2 (id : Byte) (params : List Byte) : Laws.EncodeLength.Statement (.rebootP2 id params) :=
  Laws.encodeLength_of_request rfl

theorem Laws.EncodeLength.syncReadP2 (id : Byte) (params : List Byte) : Laws.EncodeLength.Statement (.syncReadP2 id params) :=
  Laws.encodeLength_of_request rfl

theorem Laws.EncodeLength.syncWriteP2 (id : Byte) (params : List Byte) : Laws.EncodeLength.Statement (.syncWriteP2 id params) :=
  Laws.encodeLength_of_request rfl

theorem Laws.EncodeLength.bulkReadP2 (id : Byte) (params : List Byte) : Laws.EncodeLength.Statement (.bulkReadP2 id params) :=
  Laws.encodeLength_of_request rfl

theorem Laws.EncodeLength.bulkWriteP2 (id : Byte) (params : List Byte) : Laws.EncodeLength.Statement (.bulkWriteP2 id params) :=
  Laws.encodeLength_of_request rfl

theorem Laws.EncodeLength.statusP2 (id : Byte) (params : List Byte) : Laws.EncodeLength.Statement (.statusP2 id params) :=
  Laws.encodeLength_of_request rfl

theorem Laws.EncodeLength.startTx : Laws.EncodeLength.Statement .startTx := fun _ => rfl

theorem Laws.EncodeLength.startRx : Laws.EncodeLength.Statement .startRx := fun _ => rfl

theorem Laws.EncodeLength.startTxrx : Laws.EncodeLength.Statement .startTxrx := fun _ => rfl

theorem Laws.EncodeLength.startCollect : Laws.EncodeLength.Statement .startCollect := fun _ => rfl

end Sys2Proof
end

