-- ==== Sys2Proof/Laws/Pseudo.lean ====
section
/-! SUPPORT. How a script and the other agents take their turns, said once each. -/

namespace Sys2Proof.Machine

variable {α : Type}

@[simp] theorem play_nil (p : Script α) (s : State) : play [] p s = some (p, s) := rfl

@[simp] theorem play_host_ret (ts : List Turn) (a : α) (s : State) : play (.host :: ts) (.ret a) s = play ts (.ret a) s := rfl

/-- An access of the script whose event answers `t`: the script goes on with the value read. -/
theorem play_host_access {e : Event} {k : Word → Script α} {s t : State} (h : perform e s = .next t) (ts : List Turn) :
    play (.host :: ts) (.access e k) s = play ts (k t.rdata) t := by
  simp [play, Script.turn, h]

/-- An event of another agent leaves the script where it is. -/
theorem play_other {e : Event} {p : Script α} {s t : State} (h : perform e s = .next t) (ts : List Turn) :
    play (.other e :: ts) p s = play ts p t := by
  simp [play, h]

/-- `WAIT` reads `STATUS` once a turn and goes on when `DONE` is 1. -/
theorem play_host_wait (ts : List Turn) (k : Script α) (s : State) :
    play (.host :: ts) (.wait k) s =
      play ts (if (hostRead 0x04 4 s).rdata.getLsbD 1 then k else .wait k) (hostRead 0x04 4 s) := rfl

@[simp] theorem issueAll_nil (k : Script α) : issueAll [] k = k := rfl

@[simp] theorem issueAll_cons (e : Event) (es : List Event) (k : Script α) :
    issueAll (e :: es) k = .access e (fun _ => issueAll es k) := rfl

/-- Turns can be taken in two parts. -/
theorem play_append (ts us : List Turn) (p : Script α) (s : State) :
    play (ts ++ us) p s = (play ts p s).bind (fun x => play us x.1 x.2) := by
  induction ts generalizing p s with
  | nil => rfl
  | cons t ts ih =>
    cases t with
    | host =>
      simp only [List.cons_append, play]
      cases p.turn s <;> simp [ih]
    | other e =>
      simp only [List.cons_append, play]
      cases perform e s <;> simp [ih]

/-- A script that has returned stays returned while the host alone has turns. -/
theorem play_hosts_ret (a : α) (s : State) : ∀ ts : List Turn, (∀ u ∈ ts, u = .host) → play ts (.ret a) s = some (.ret a, s)
  | [], _ => rfl
  | u :: ts, h => by
    obtain rfl := h u (List.mem_cons_self ..)
    exact play_hosts_ret a s ts fun v hv => h v (List.mem_cons_of_mem _ hv)

/-- A wrapper is its refusal, or its expansion and what follows the START. -/
theorem runExpansion_cases (x : Except CommResult (List Event)) (f : Script WrapperResult) :
    (∃ r, x = .error r ∧ runExpansion x f = .ret ⟨resultCode r, none, .nothing⟩) ∨
    (∃ es, x = .ok es ∧ runExpansion x f = issueAll es f) := by
  cases x with
  | error r => exact .inl ⟨r, rfl, rfl⟩
  | ok es => exact .inr ⟨es, rfl, rfl⟩

end Sys2Proof.Machine
end

