-- ==== Sys2Proof/Laws/Scanner.lean ====
section
/-! SUPPORT. What the header search and the scanner can answer, said once each. -/

namespace Sys2Proof.Machine

/-- An index found is a place in the buffer where the whole marker stands. -/
theorem findHeader_some {p : Proto} {buf : List Byte} {h : Nat} (hf : findHeader p buf = some h) :
    h < buf.length ∧ headerMark p <+: buf.drop h := by
  induction buf generalizing h with
  | nil => simp [findHeader] at hf
  | cons b bs ih =>
    unfold findHeader at hf
    split at hf
    · rename_i hp
      cases hf
      exact ⟨by simp, by simpa using List.isPrefixOf_iff_prefix.mp hp⟩
    · cases hr : findHeader p bs with
      | none => simp [hr] at hf
      | some k =>
        simp only [hr, Option.map_some, Option.some.injEq] at hf
        subst hf
        obtain ⟨h1, h2⟩ := ih hr
        exact ⟨by simp; omega, by simpa using h2⟩

/-- No marker stands before the index found. -/
theorem findHeader_least {p : Proto} {buf : List Byte} {h : Nat} (hf : findHeader p buf = some h) :
    ∀ k < h, ¬ headerMark p <+: buf.drop k := by
  induction buf generalizing h with
  | nil => simp [findHeader] at hf
  | cons b bs ih =>
    unfold findHeader at hf
    split at hf
    · cases hf; intro k hk; omega
    · rename_i hp
      cases hr : findHeader p bs with
      | none => simp [hr] at hf
      | some m =>
        simp only [hr, Option.map_some, Option.some.injEq] at hf
        subst hf
        intro k hk
        cases k with
        | zero => simpa [← List.isPrefixOf_iff_prefix] using hp
        | succ k => simpa using ih hr k (by omega)

/-- Where no marker is found none stands anywhere. -/
theorem findHeader_none {p : Proto} {buf : List Byte} (hf : findHeader p buf = none) :
    ∀ k, ¬ headerMark p <+: buf.drop k := by
  induction buf with
  | nil => intro k; cases p <;> simp [headerMark]
  | cons b bs ih =>
    unfold findHeader at hf
    split at hf
    · simp at hf
    · rename_i hp
      have hr : findHeader p bs = none := by simpa using hf
      intro k
      cases k with
      | zero => simpa [← List.isPrefixOf_iff_prefix] using hp
      | succ k => simpa using ih hr k

/-- A marker at the first byte is the one found. -/
theorem findHeader_zero {p : Proto} {buf : List Byte} (h : headerMark p <+: buf) : findHeader p buf = some 0 := by
  cases buf with
  | nil => cases p <;> simp [headerMark] at h
  | cons b bs =>
    unfold findHeader
    rw [if_pos (List.isPrefixOf_iff_prefix.mpr h)]

/-- Scanning a buffer that starts with the marker goes straight to the fields. -/
theorem scan_of_mark {c : Config} {p : Proto} {buf : List Byte} (h : headerMark p <+: buf) :
    scan c p buf = scanFrom c p buf := by
  simp [scan, findHeader_zero h]

/-- The verdict on a buffer that starts at a marker. -/
theorem scanFrom_cases (c : Config) (p : Proto) (f : List Byte) :
    (scanFrom c p f = .needMore f ∧ f.length < lenEnd p) ∨
    (scanFrom c p f = .corrupt ∧ lenEnd p ≤ f.length) ∨
    (lenEnd p ≤ f.length ∧ reservedId (byteAt f (idxId p)) = false ∧ lenMin p ≤ lenOf p f ∧
      lenOf p f + lenOverhead p ≤ rxMax c p ∧
      ((scanFrom c p f = .needMore f ∧ f.length < lenOf p f + lenOverhead p) ∨
        (lenOf p f + lenOverhead p ≤ f.length ∧ integrityOk c p (f.take (lenOf p f + lenOverhead p)) = true ∧
          scanFrom c p f =
            .frame (byteAt f (idxId p)) (byteAt f (idxSlot p))
              (deliveredParams p (slice (idxParam p) (lenOf p f + lenOverhead p - trailerWidth p) f))
              (f.drop (lenOf p f + lenOverhead p))))) := by
  unfold scanFrom
  by_cases h1 : f.length < lenEnd p
  · exact .inl ⟨by simp [h1], h1⟩
  have h1' : lenEnd p ≤ f.length := by omega
  cases h2 : reservedId (byteAt f (idxId p))
  · by_cases h3 : lenOf p f < lenMin p ∨ lenOf p f + lenOverhead p > rxMax c p
    · exact .inr (.inl ⟨by simp [h1, h3], h1'⟩)
    · have hb : lenMin p ≤ lenOf p f ∧ lenOf p f + lenOverhead p ≤ rxMax c p := by omega
      by_cases h4 : f.length < lenOf p f + lenOverhead p
      · exact .inr (.inr ⟨h1', rfl, hb.1, hb.2, .inl ⟨by simp [h1, h3, h4], h4⟩⟩)
      · cases h5 : integrityOk c p (f.take (lenOf p f + lenOverhead p))
        · exact .inr (.inl ⟨by simp [h1, h3, h4, h5], h1'⟩)
        · exact .inr (.inr ⟨h1', rfl, hb.1, hb.2, .inr ⟨by omega, rfl, by simp [h1, h3, h4, h5]⟩⟩)
  · exact .inr (.inl ⟨by simp [h1], h1'⟩)

/-- The scanner's answer: no marker, or the verdict from the first marker on. -/
theorem scan_cases (c : Config) (p : Proto) (buf : List Byte) :
    (findHeader p buf = none ∧ buf.length < rxMax c p ∧ scan c p buf = .needMore buf) ∨
    (findHeader p buf = none ∧ rxMax c p ≤ buf.length ∧ scan c p buf = .corrupt) ∨
    (∃ h, findHeader p buf = some h ∧ scan c p buf = scanFrom c p (buf.drop h)) := by
  unfold scan
  cases hf : findHeader p buf with
  | none =>
    by_cases hl : buf.length ≥ rxMax c p
    · exact .inr (.inl ⟨rfl, hl, by simp [hl]⟩)
    · exact .inl ⟨rfl, by omega, by simp [hl]⟩
  | some h => exact .inr (.inr ⟨h, rfl, rfl⟩)

end Sys2Proof.Machine
end

