-- ==== Sys2Proof/Tests/Slice0.lean ====
section
/-! SUPPORT. Tests of the model against the worked examples of spec/, and for every obligation with hypotheses a state and
operands that meet them. -/

namespace Sys2Proof.Tests

open Sys2Proof Sys2Proof.Machine

set_option Elab.async false

/-! ## Well-formed terms -/

/-- An id of 253 or 255 is refused (`30_encoding.md` R100). -/
theorem test_wellFormed_refuses_reserved_id :
    (Instr.pingP1 253 []).check Config.default = .error .reservedId ∧
    (Instr.writeP2 255 [0]).check Config.default = .error .reservedId ∧
    (Instr.writeP2 254 [0]).check Config.default = .ok () := by decide +kernel

/-- A frame longer than `RXMAX` is refused, in P2 after stuffing (`30_encoding.md` R94, R95). -/
theorem test_wellFormed_refuses_long_frame :
    (Instr.writeP1 1 (List.replicate 245 0)).check Config.default = .error .frameTooLong ∧
    (Instr.writeP2 1 ([0xFF, 0xFF, 0xFD] ++ List.replicate 1011 0)).check Config.default = .error .frameTooLong ∧
    (Instr.writeP1 1 (List.replicate 244 0)).check Config.default = .ok () := by decide +kernel

/-! ## A written-out word of every constructor, decoded and encoded -/

/-- The word of a wire instruction decodes to it and is its encoding. -/
abbrev isWordOf (proto : Proto) (w : List Byte) (i : Instr) : Prop :=
  decode Config.default (.frame proto) w = .ok i ∧ encode Config.default i = w

/-- R253. -/
theorem test_word_pingP1 :
    isWordOf .p1 [0xFF, 0xFF, 0x01, 0x02, 0x01, 0xFB]
      (.pingP1 1 []) := by decide +kernel

/-- R119, R254. -/
theorem test_word_readP1 :
    isWordOf .p1 [0xFF, 0xFF, 0x01, 0x04, 0x02, 0x24, 0x01, 0xD3]
      (.readP1 1 [0x24, 0x01]) := by decide +kernel

/-- R255. -/
theorem test_word_writeP1 :
    isWordOf .p1 [0xFF, 0xFF, 0x01, 0x04, 0x03, 0x19, 0x01, 0xDD]
      (.writeP1 1 [0x19, 0x01]) := by decide +kernel

/-- R256. -/
theorem test_word_regWriteP1 :
    isWordOf .p1 [0xFF, 0xFF, 0x01, 0x05, 0x04, 0x1E, 0xF4, 0x01, 0xE2]
      (.regWriteP1 1 [0x1E, 0xF4, 0x01]) := by decide +kernel

/-- R257. -/
theorem test_word_actionP1 :
    isWordOf .p1 [0xFF, 0xFF, 0xFE, 0x02, 0x05, 0xFA]
      (.actionP1 254 []) := by decide +kernel

/-- R258. -/
theorem test_word_factoryResetP1 :
    isWordOf .p1 [0xFF, 0xFF, 0x01, 0x02, 0x06, 0xF6]
      (.factoryResetP1 1 []) := by decide +kernel

/-- R91 by hand: sum 0x0B. -/
theorem test_word_rebootP1 :
    isWordOf .p1 [0xFF, 0xFF, 0x01, 0x02, 0x08, 0xF4]
      (.rebootP1 1 []) := by decide +kernel

/-- R91 by hand: sum 0x1AF. -/
theorem test_word_syncReadP1 :
    isWordOf .p1 [0xFF, 0xFF, 0xFE, 0x06, 0x82, 0x24, 0x02, 0x01, 0x02, 0x50]
      (.syncReadP1 254 [0x24, 0x02, 0x01, 0x02]) := by decide +kernel

/-- R261. -/
theorem test_word_syncWriteP1 :
    isWordOf .p1 [0xFF, 0xFF, 0xFE, 0x0A, 0x83, 0x1E, 0x02, 0x01, 0x00, 0x02, 0x02, 0x00, 0x01, 0x4E]
      (.syncWriteP1 254 [0x1E, 0x02, 0x01, 0x00, 0x02, 0x02, 0x00, 0x01]) := by decide +kernel

/-- R262. -/
theorem test_word_bulkReadP1 :
    isWordOf .p1 [0xFF, 0xFF, 0xFE, 0x09, 0x92, 0x00, 0x02, 0x01, 0x24, 0x01, 0x02, 0x2B, 0x11]
      (.bulkReadP1 254 [0x00, 0x02, 0x01, 0x24, 0x01, 0x02, 0x2B]) := by decide +kernel

/-- R91 by hand: sum 0x193. -/
theorem test_word_bulkWriteP1 :
    isWordOf .p1 [0xFF, 0xFF, 0xFE, 0x02, 0x93, 0x6C]
      (.bulkWriteP1 254 []) := by decide +kernel

/-- R91 by hand: sum 0x59. -/
theorem test_word_statusP1 :
    isWordOf .p1 [0xFF, 0xFF, 0x01, 0x03, 0x55, 0x00, 0xA6]
      (.statusP1 1 [0x00]) := by decide +kernel

/-- R253. -/
theorem test_word_pingP2 :
    isWordOf .p2 [0xFF, 0xFF, 0xFD, 0x00, 0xFE, 0x03, 0x00, 0x01, 0x31, 0x42]
      (.pingP2 254 []) := by decide +kernel

/-- R254. -/
theorem test_word_readP2 :
    isWordOf .p2 [0xFF, 0xFF, 0xFD, 0x00, 0x01, 0x07, 0x00, 0x02, 0x84, 0x00, 0x04, 0x00, 0x1D, 0x15]
      (.readP2 1 [0x84, 0x00, 0x04, 0x00]) := by decide +kernel

/-- R255, a stuffed frame. -/
theorem test_word_writeP2 :
    isWordOf .p2 [0xFF, 0xFF, 0xFD, 0x00, 0x01, 0x09, 0x00, 0x03, 0x10, 0x00, 0xFF, 0xFF, 0xFD, 0xFD, 0xA4, 0x65]
      (.writeP2 1 [0x10, 0x00, 0xFF, 0xFF, 0xFD]) := by decide +kernel

/-- R256. -/
theorem test_word_regWriteP2 :
    isWordOf .p2 [0xFF, 0xFF, 0xFD, 0x00, 0x01, 0x09, 0x00, 0x04, 0x68, 0x00, 0xC8, 0x00, 0x00, 0x00, 0xAE, 0x8E]
      (.regWriteP2 1 [0x68, 0x00, 0xC8, 0x00, 0x00, 0x00]) := by decide +kernel

/-- R257. -/
theorem test_word_actionP2 :
    isWordOf .p2 [0xFF, 0xFF, 0xFD, 0x00, 0xFE, 0x03, 0x00, 0x05, 0x2A, 0xC2]
      (.actionP2 254 []) := by decide +kernel

/-- R258. -/
theorem test_word_factoryResetP2 :
    isWordOf .p2 [0xFF, 0xFF, 0xFD, 0x00, 0x01, 0x04, 0x00, 0x06, 0x01, 0xA1, 0xE6]
      (.factoryResetP2 1 [0x01]) := by decide +kernel

/-- R259. -/
theorem test_word_rebootP2 :
    isWordOf .p2 [0xFF, 0xFF, 0xFD, 0x00, 0x01, 0x03, 0x00, 0x08, 0x2F, 0x4E]
      (.rebootP2 1 []) := by decide +kernel

/-- R260. -/
theorem test_word_syncReadP2 :
    isWordOf .p2 [0xFF, 0xFF, 0xFD, 0x00, 0xFE, 0x09, 0x00, 0x82, 0x84, 0x00, 0x04, 0x00, 0x01, 0x02, 0xCE, 0xFA]
      (.syncReadP2 254 [0x84, 0x00, 0x04, 0x00, 0x01, 0x02]) := by decide +kernel

/-- R261. -/
theorem test_word_syncWriteP2 :
    isWordOf .p2 [0xFF, 0xFF, 0xFD, 0x00, 0xFE, 0x11, 0x00, 0x83, 0x74, 0x00, 0x04, 0x00, 0x01, 0x96, 0x00, 0x00, 0x00, 0x02, 0xAA, 0x00, 0x00, 0x00, 0x82, 0x87]
      (.syncWriteP2 254 [0x74, 0x00, 0x04, 0x00, 0x01, 0x96, 0x00, 0x00, 0x00, 0x02, 0xAA, 0x00, 0x00, 0x00]) := by decide +kernel

/-- R262. -/
theorem test_word_bulkReadP2 :
    isWordOf .p2 [0xFF, 0xFF, 0xFD, 0x00, 0xFE, 0x0D, 0x00, 0x92, 0x01, 0x90, 0x00, 0x02, 0x00, 0x02, 0x92, 0x00, 0x01, 0x00, 0x1A, 0x05]
      (.bulkReadP2 254 [0x01, 0x90, 0x00, 0x02, 0x00, 0x02, 0x92, 0x00, 0x01, 0x00]) := by decide +kernel

/-- R263. -/
theorem test_word_bulkWriteP2 :
    isWordOf .p2 [0xFF, 0xFF, 0xFD, 0x00, 0xFE, 0x10, 0x00, 0x93, 0x01, 0x20, 0x00, 0x02, 0x00, 0xA0, 0x00, 0x02, 0x1F, 0x00, 0x01, 0x00, 0x50, 0xB7, 0x68]
      (.bulkWriteP2 254 [0x01, 0x20, 0x00, 0x02, 0x00, 0xA0, 0x00, 0x02, 0x1F, 0x00, 0x01, 0x00, 0x50]) := by decide +kernel

/-- R264. -/
theorem test_word_statusP2 :
    isWordOf .p2 [0xFF, 0xFF, 0xFD, 0x00, 0x01, 0x04, 0x00, 0x55, 0x00, 0xA1, 0x0C]
      (.statusP2 1 [0x00]) := by decide +kernel

/-- R206. -/
theorem test_word_startTx :
    decode Config.default .cmd [0x01, 0, 0, 0] = .ok .startTx ∧ encode Config.default .startTx = [0x01, 0, 0, 0] := by
  decide +kernel

/-- R206. -/
theorem test_word_startRx :
    decode Config.default .cmd [0x02, 0, 0, 0] = .ok .startRx ∧ encode Config.default .startRx = [0x02, 0, 0, 0] := by
  decide +kernel

/-- R206. -/
theorem test_word_startTxrx :
    decode Config.default .cmd [0x03, 0, 0, 0] = .ok .startTxrx ∧ encode Config.default .startTxrx = [0x03, 0, 0, 0] := by
  decide +kernel

/-- R206. -/
theorem test_word_startCollect :
    decode Config.default .cmd [0x07, 0, 0, 0] = .ok .startCollect ∧ encode Config.default .startCollect = [0x07, 0, 0, 0] := by
  decide +kernel

/-- What the decoder refuses, by name (`42_decode.md` R181, `30_encoding.md` R106, `43_sequencer.md` R206). -/
theorem test_decode_refusals :
    decode Config.default (.frame .p1) [0xFF, 0xFF, 0x01, 0x04, 0x02, 0x24, 0x01, 0xD2] = .error .corrupt ∧
    decode Config.default (.frame .p1) [0xFF, 0xFF, 0x01, 0x04, 0x02, 0x24] = .error .incomplete ∧
    decode Config.default (.frame .p1) [0x00, 0xFF, 0xFF, 0x01, 0x02, 0x01, 0xFB] = .error .noHeader ∧
    decode Config.default (.frame .p1) [0xFF, 0xFF, 0x01, 0x02, 0x01, 0xFB, 0x00] = .error .trailingBytes ∧
    decode Config.default (.frame .p1) [0xFF, 0xFF, 0x01, 0x03, 0x00, 0x20, 0xDB] = .error (.reservedInstr 0) ∧
    decode Config.default .cmd [0x05, 0, 0, 0] = .error .illegalCommand ∧
    decode Config.default .cmd [0x01, 0, 0, 0x80] = .error .illegalCommand ∧
    decode Config.default .cmd [0x01] = .error .notOneWord := by decide +kernel

/-- Opcode-table words (`30_encoding.md` R120), the first byte in bits 7..0 and, as the hex strings write it, leftmost. -/
theorem test_decodeTableWord :
    decodeTableWord 40 0x020401FFFF = some (.readP1 1 [0, 0]) ∧ decodeTableWord 40 0xFFFF010402 = some (.readP1 1 [0, 0]) ∧
    decodeTableWord 64 0x8200000000FDFFFF = some (.syncReadP2 0 []) ∧
    decodeTableWord 32 7 = some .startCollect ∧ decodeTableWord 32 4 = none ∧ decodeTableWord 40 0x070201FFFF = none := by
  decide +kernel

/-! ## Codec examples -/

/-- T7, T6, T11 of `95_test_vectors.md`. -/
theorem test_checksum8 : checksum8 [1, 4, 2, 0x24, 1] = 0xD3 ∧ checksum8 [0xFF, 0xFF, 0xFF] = 2 := by decide +kernel

/-- T27, T28 of `95_test_vectors.md`, bitwise and by table. -/
theorem test_crc16 :
    crc16 Config.default [0x31, 0x32, 0x33, 0x34, 0x35, 0x36, 0x37, 0x38, 0x39] = 0xFEE8 ∧
    crc16Table Config.default [0x31, 0x32, 0x33, 0x34, 0x35, 0x36, 0x37, 0x38, 0x39] = 0xFEE8 ∧
    crc16 Config.default [0xFF, 0xFF, 0xFD, 0x00, 0x01, 0x03, 0x00, 0x01] = 0x4E19 := by decide +kernel

/-- T36, T38, T39a of `95_test_vectors.md`. -/
theorem test_stuff :
    stuff [0xFF, 0xFF, 0xFD, 0xFD] = [0xFF, 0xFF, 0xFD, 0xFD, 0xFD] ∧
    stuff [0xFF, 0xFF, 0xFF, 0xFD] = [0xFF, 0xFF, 0xFF, 0xFD, 0xFD] ∧
    stuff [0xFF, 0xFF, 0xFD, 0xFF, 0xFF, 0xFD] = [0xFF, 0xFF, 0xFD, 0xFD, 0xFF, 0xFF, 0xFD, 0xFD] := by decide +kernel

/-- T39f, T39h of `95_test_vectors.md`. -/
theorem test_unstuff :
    unstuff [0xFF, 0xFF, 0xFD, 0xFD, 0xFD, 0xFD] = [0xFF, 0xFF, 0xFD, 0xFD, 0xFD] ∧
    unstuff [0xFF, 0xFF, 0xFD, 0xFF, 0xFF, 0xFD, 0xFD] = [0xFF, 0xFF, 0xFD, 0xFF, 0xFF, 0xFD] := by decide +kernel

/-- The worked examples of `42_decode.md` R181, and a buffer with bytes before and after the frame. -/
theorem test_scan :
    scan Config.default .p1 [0xFF, 0xFF, 0x01, 0x04, 0x02, 0x24, 0x01, 0xD3] = .frame 1 2 [0x24, 0x01] [] ∧
    scan Config.default .p1 [0xFF, 0xFF, 0x01, 0x04, 0x02, 0x24] = .needMore [0xFF, 0xFF, 0x01, 0x04, 0x02, 0x24] ∧
    scan Config.default .p2 [0xFF, 0xFF, 0xFD, 0x00, 0x01, 0x03, 0x00, 0x01, 0x19, 0x4F] = .corrupt ∧
    scan Config.default .p1 [0x12, 0x34, 0xFF, 0xFF, 0x01, 0x03, 0x00, 0x20, 0xDB, 0xAA] = .frame 1 0 [0x20] [0xAA] := by
  decide +kernel

/-- The worked examples of `42_decode.md` R186. -/
theorem test_statusView :
    statusView { Config.default with statusForm := .instrThenErr } .p2 0x55 [0] = some ⟨0, []⟩ ∧
    statusView { Config.default with statusForm := .errInSlot } .p2 0x55 [0] = some ⟨0x55, [0]⟩ ∧
    statusView { Config.default with statusForm := .instrThenErr } .p2 0x01 [] = none := by decide +kernel

/-! ## One step each -/

/-- The next state, if there is one. -/
def nextOf : Outcome → Option State
  | .next t => some t
  | _ => none

/-- MPF after reset with the START value `v` being carried out. -/
def idleWith (v : Word) : State := { State.reset with cmd := v }

/-- What one wire instruction does on an idle MPF: the bytes queued, whether a response is awaited, the phase, the result. -/
def carriedBy (v : Word) (i : Instr) : Option (List Byte × Bool × Phase × CommResult) :=
  (nextOf (exec i (idleWith v))).map (fun t => (t.txq, t.curRx, t.phase, t.result))

theorem test_exec_pingP1 :
    carriedBy 3 (.pingP1 1 []) = some ([0xFF, 0xFF, 0x01, 0x02, 0x01, 0xFB], true, .tx, .none) := by
  decide +kernel

theorem test_exec_readP1 :
    carriedBy 3 (.readP1 1 [0x24, 0x01]) = some ([0xFF, 0xFF, 0x01, 0x04, 0x02, 0x24, 0x01, 0xD3], true, .tx, .none) := by
  decide +kernel

theorem test_exec_writeP1 :
    carriedBy 3 (.writeP1 1 [0x19, 0x01]) = some ([0xFF, 0xFF, 0x01, 0x04, 0x03, 0x19, 0x01, 0xDD], true, .tx, .none) := by
  decide +kernel

theorem test_exec_regWriteP1 :
    carriedBy 3 (.regWriteP1 1 [0x1E, 0xF4, 0x01]) = some ([0xFF, 0xFF, 0x01, 0x05, 0x04, 0x1E, 0xF4, 0x01, 0xE2], true, .tx, .none) := by
  decide +kernel

theorem test_exec_actionP1 :
    carriedBy 3 (.actionP1 254 []) = some ([0xFF, 0xFF, 0xFE, 0x02, 0x05, 0xFA], false, .tx, .none) := by
  decide +kernel

theorem test_exec_factoryResetP1 :
    carriedBy 3 (.factoryResetP1 1 []) = some ([0xFF, 0xFF, 0x01, 0x02, 0x06, 0xF6], true, .tx, .none) := by
  decide +kernel

theorem test_exec_rebootP1 :
    carriedBy 3 (.rebootP1 1 []) = some ([], false, .idle, .notAvailable) := by
  decide +kernel

theorem test_exec_syncReadP1 :
    carriedBy 3 (.syncReadP1 254 [0x24, 0x02, 0x01, 0x02]) = some ([], false, .idle, .notAvailable) := by
  decide +kernel

theorem test_exec_syncWriteP1 :
    carriedBy 3 (.syncWriteP1 254 [0x1E, 0x02, 0x01, 0x00, 0x02, 0x02, 0x00, 0x01]) = some ([0xFF, 0xFF, 0xFE, 0x0A, 0x83, 0x1E, 0x02, 0x01, 0x00, 0x02, 0x02, 0x00, 0x01, 0x4E], false, .tx, .none) := by
  decide +kernel

theorem test_exec_bulkReadP1 :
    carriedBy 3 (.bulkReadP1 254 [0x00, 0x02, 0x01, 0x24, 0x01, 0x02, 0x2B]) = some ([0xFF, 0xFF, 0xFE, 0x09, 0x92, 0x00, 0x02, 0x01, 0x24, 0x01, 0x02, 0x2B, 0x11], false, .tx, .none) := by
  decide +kernel

theorem test_exec_bulkWriteP1 :
    carriedBy 3 (.bulkWriteP1 254 []) = some ([], false, .idle, .notAvailable) := by
  decide +kernel

theorem test_exec_statusP1 :
    carriedBy 3 (.statusP1 1 [0x00]) = some ([], false, .idle, .notAvailable) := by
  decide +kernel

theorem test_exec_pingP2 :
    carriedBy 7 (.pingP2 254 []) = some ([0xFF, 0xFF, 0xFD, 0x00, 0xFE, 0x03, 0x00, 0x01, 0x31, 0x42], true, .tx, .none) := by
  decide +kernel

theorem test_exec_readP2 :
    carriedBy 3 (.readP2 1 [0x84, 0x00, 0x04, 0x00]) = some ([0xFF, 0xFF, 0xFD, 0x00, 0x01, 0x07, 0x00, 0x02, 0x84, 0x00, 0x04, 0x00, 0x1D, 0x15], true, .tx, .none) := by
  decide +kernel

theorem test_exec_writeP2 :
    carriedBy 3 (.writeP2 1 [0x10, 0x00, 0xFF, 0xFF, 0xFD]) = some ([0xFF, 0xFF, 0xFD, 0x00, 0x01, 0x09, 0x00, 0x03, 0x10, 0x00, 0xFF, 0xFF, 0xFD, 0xFD, 0xA4, 0x65], true, .tx, .none) := by
  decide +kernel

theorem test_exec_regWriteP2 :
    carriedBy 3 (.regWriteP2 1 [0x68, 0x00, 0xC8, 0x00, 0x00, 0x00]) = some ([0xFF, 0xFF, 0xFD, 0x00, 0x01, 0x09, 0x00, 0x04, 0x68, 0x00, 0xC8, 0x00, 0x00, 0x00, 0xAE, 0x8E], true, .tx, .none) := by
  decide +kernel

theorem test_exec_actionP2 :
    carriedBy 3 (.actionP2 254 []) = some ([0xFF, 0xFF, 0xFD, 0x00, 0xFE, 0x03, 0x00, 0x05, 0x2A, 0xC2], false, .tx, .none) := by
  decide +kernel

theorem test_exec_factoryResetP2 :
    carriedBy 3 (.factoryResetP2 1 [0x01]) = some ([0xFF, 0xFF, 0xFD, 0x00, 0x01, 0x04, 0x00, 0x06, 0x01, 0xA1, 0xE6], true, .tx, .none) := by
  decide +kernel

theorem test_exec_rebootP2 :
    carriedBy 3 (.rebootP2 1 []) = some ([0xFF, 0xFF, 0xFD, 0x00, 0x01, 0x03, 0x00, 0x08, 0x2F, 0x4E], true, .tx, .none) := by
  decide +kernel

theorem test_exec_syncReadP2 :
    carriedBy 3 (.syncReadP2 254 [0x84, 0x00, 0x04, 0x00, 0x01, 0x02]) = some ([0xFF, 0xFF, 0xFD, 0x00, 0xFE, 0x09, 0x00, 0x82, 0x84, 0x00, 0x04, 0x00, 0x01, 0x02, 0xCE, 0xFA], false, .tx, .none) := by
  decide +kernel

theorem test_exec_syncWriteP2 :
    carriedBy 3 (.syncWriteP2 254 [0x74, 0x00, 0x04, 0x00, 0x01, 0x96, 0x00, 0x00, 0x00, 0x02, 0xAA, 0x00, 0x00, 0x00]) = some ([0xFF, 0xFF, 0xFD, 0x00, 0xFE, 0x11, 0x00, 0x83, 0x74, 0x00, 0x04, 0x00, 0x01, 0x96, 0x00, 0x00, 0x00, 0x02, 0xAA, 0x00, 0x00, 0x00, 0x82, 0x87], false, .tx, .none) := by
  decide +kernel

theorem test_exec_bulkReadP2 :
    carriedBy 3 (.bulkReadP2 254 [0x01, 0x90, 0x00, 0x02, 0x00, 0x02, 0x92, 0x00, 0x01, 0x00]) = some ([0xFF, 0xFF, 0xFD, 0x00, 0xFE, 0x0D, 0x00, 0x92, 0x01, 0x90, 0x00, 0x02, 0x00, 0x02, 0x92, 0x00, 0x01, 0x00, 0x1A, 0x05], false, .tx, .none) := by
  decide +kernel

theorem test_exec_bulkWriteP2 :
    carriedBy 3 (.bulkWriteP2 254 [0x01, 0x20, 0x00, 0x02, 0x00, 0xA0, 0x00, 0x02, 0x1F, 0x00, 0x01, 0x00, 0x50]) = some ([0xFF, 0xFF, 0xFD, 0x00, 0xFE, 0x10, 0x00, 0x93, 0x01, 0x20, 0x00, 0x02, 0x00, 0xA0, 0x00, 0x02, 0x1F, 0x00, 0x01, 0x00, 0x50, 0xB7, 0x68], false, .tx, .none) := by
  decide +kernel

theorem test_exec_statusP2 :
    carriedBy 3 (.statusP2 1 [0x00]) = some ([], false, .idle, .notAvailable) := by
  decide +kernel

/-- MPF after reset with a P1 Read of two bytes in its registers (R205's example). -/
def readReady : State :=
  { State.reset with
    reqId := 1, reqInstr := 2, reqPlen := 2, reqRxlen := 11, tLat := 32, tByte := 2, tSlack := 4
    mem := [(0x10000, 0x24), (0x10001, 0x01)] }

/-- The example of `43_sequencer.md` R205 and the budget of R221. -/
theorem test_exec_startTxrx :
    (nextOf (exec .startTxrx readReady)).map (fun t => (t.txq, t.curRx, t.phase, t.budget, t.out)) =
      some ([0xFF, 0xFF, 0x01, 0x04, 0x02, 0x24, 0x01, 0xD3], true, .tx, 58, [.flush]) := by decide +kernel

theorem test_exec_startTx :
    (nextOf (exec .startTx readReady)).map (fun t => (t.txq.length, t.curRx, t.phase)) = some (8, false, .tx) := by
  decide +kernel

theorem test_exec_startRx :
    (nextOf (exec .startRx readReady)).map (fun t => (t.txq, t.phase, t.curId, t.budget, t.out)) =
      some ([], .rx, 1, 58, []) := by decide +kernel

/-- `43_sequencer.md` R211's frame. -/
theorem test_exec_startCollect :
    (nextOf (exec .startCollect { State.reset with proto := .p2, reqId := 254, reqInstr := 1, idmap := 3, idcount := 2 })).map
        (fun t => (t.txq, t.curCollect, t.idmap, t.idcount, t.phase)) =
      some ([0xFF, 0xFF, 0xFD, 0x00, 0xFE, 0x03, 0x00, 0x01, 0x31, 0x42], true, 0, 0, .tx) := by decide +kernel

/-- A word placed with `withFetchWord` is run by the very next step. -/
theorem test_withFetchWord :
    (nextOf (step (State.reset.withFetchWord 40 0x020401FFFF))).map (fun t => (t.txq, t.phase)) =
      some ([0xFF, 0xFF, 0x01, 0x04, 0x02, 0x00, 0x00, 0xF8], .tx) ∧
    (nextOf (step (State.reset.withFetchWord 32 2))).map (fun t => t.phase) = some .rx := by decide +kernel

/-- `20_memory.md` R62 to R64, T109 of `95_test_vectors.md`. -/
theorem test_host_accesses :
    hostWrite 0x10005 4 0x04030201 State.reset =
      { State.reset with mem := [(0x10005, 1), (0x10006, 2), (0x10007, 3), (0x10008, 4)] } ∧
    readValue { State.reset with mem := [(0x10005, 1), (0x10006, 2)] } 0x10005 2 = 0x0201 ∧
    readValue State.reset 0x20 4 = 15 := by
  refine ⟨rfl, ?_, ?_⟩ <;> decide +kernel

/-! ## Witnesses of the obligations' hypotheses -/

theorem test_witness_ScanRecoversEveryFrame :
    configValid Config.default ∧ (254 : Byte) ≠ 253 ∧ (254 : Byte) ≠ 255 ∧
    (List.replicate 244 (0xFF : Byte)).length + 6 = Config.default.rxMax1 ∧
    (stuff (List.replicate 1014 0)).length + 10 = Config.default.rxMax2 := by decide +kernel

theorem test_witness_DecodeEncodeEveryInstruction :
    configValid Config.default ∧ (Instr.writeP1 252 (List.replicate 244 0)).wellFormed Config.default = true ∧
    (Instr.bulkWriteP2 254 (List.replicate 1014 0)).wellFormed Config.default = true ∧
    Instr.startCollect.wellFormed Config.default = true := by decide +kernel

theorem test_witness_FrameP1IsConsistent : (List.replicate 253 (0xFF : Byte)).length ≤ 253 := by decide +kernel

theorem test_witness_FrameP2IsConsistent : (stuff (List.replicate 1014 0 ++ [0xFF, 0xFF, 0xFD])).length ≤ 65532 := by
  decide +kernel

theorem test_witness_ChecksumLaws :
    List.Perm [(1 : Byte), 4] [4, 1] ∧ check1 [0xFF, 0xFF, 0x01, 0x02, 0x01, 0xFB] = true ∧ 2 ≤ 2 ∧ 5 < 6 ∧ 7 < 8 := by
  decide +kernel

theorem test_witness_CrcLaws : [(1 : Byte), 2].length = [(3 : Byte), 4].length := by decide

theorem test_witness_CrcDetectsEverySingleBit :
    Config.default.crcPoly.getLsbD 0 = true ∧
    check2 Config.default [0xFF, 0xFF, 0xFD, 0x00, 0x01, 0x03, 0x00, 0x01, 0x19, 0x4E] = true ∧ 2 ≤ 10 ∧ 9 < 10 ∧ 7 < 8 := by
  decide +kernel

theorem test_witness_FlippedFrameIsCorrupt :
    configValid Config.default ∧ (0 : Byte) ≠ 253 ∧ (0 : Byte) ≠ 255 ∧
    frameLength .p1 (List.replicate 244 0) ≤ rxMax Config.default .p1 ∧ frameLength .p2 [] ≤ rxMax Config.default .p2 ∧
    (frame Config.default .p1 0 1 []).length = 6 ∧ 2 = idxId .p1 ∧ idxSlot .p1 ≤ 5 ∧
    (frame Config.default .p2 0 1 []).length = 10 ∧ 4 = idxId .p2 ∧ idxSlot .p2 ≤ 9 := by decide +kernel

theorem test_witness_ScanKeepsBufferWithinLimit :
    configValid Config.default ∧ scan Config.default .p1 (List.replicate 249 0) = .needMore (List.replicate 249 0) ∧
    scan Config.default .p2 [0x00, 0xFF, 0xFF, 0xFD, 0x00] = .needMore [0xFF, 0xFF, 0xFD, 0x00] ∧
    findHeader .p2 [0x00, 0xFF, 0xFF, 0xFD, 0x00] ≠ none := by decide +kernel

theorem test_witness_ScanOneByteAtATime :
    configValid Config.default ∧ scan Config.default .p1 [] = .needMore [] ∧
    scan Config.default .p1 [0xFF, 0xFF, 0x01, 0x02, 0x01] = .needMore [0xFF, 0xFF, 0x01, 0x02, 0x01] ∧
    scan Config.default .p1 (List.replicate 249 0) = .needMore (List.replicate 249 0) := by decide +kernel

theorem test_witness_EncodedRequestIsALegalFrame :
    configValid Config.default ∧
    encodeReq Config.default .p1 254 0x05 [] = .frame [0xFF, 0xFF, 0xFE, 0x02, 0x05, 0xFA] ∧
    encodeReq Config.default .p2 1 0x08 [] = .frame [0xFF, 0xFF, 0xFD, 0x00, 0x01, 0x03, 0x00, 0x08, 0x2F, 0x4E] := by
  decide +kernel

/-- A request in its transmit phase: `q` still to go, a response awaited or not. -/
def transmitting (q : List Byte) (rx : Bool) (es : List Event) : State :=
  { State.reset with phase := .tx, txq := q, curId := 1, curRx := rx, events := es }

/-- A request to id 1 in its receive phase with a budget of three ticks. -/
def receiving (es : List Event) : State :=
  { State.reset with phase := .rx, curId := 1, curRx := true, budget := 3, events := es }

/-- An idle MPF whose next event is `START v` with these request registers. -/
def starting (v : Word) (proto : Proto) (id instr : Byte) : State :=
  { State.reset with proto := proto, reqId := id, reqInstr := instr, events := [.hostWrite 0x08 4 v] }

theorem test_witness_StartWhileBusyIsPortBusy :
    (receiving []).phase ≠ .idle ∧ (transmitting [7] true [.hostWrite 0x08 4 9]).events = [.hostWrite 0x08 4 9] ∧
    (transmitting [7] true [.hostWrite 0x08 4 9]).phase ≠ .idle := by decide +kernel

/-- One START for each outcome of `60_exceptions.md` R315, the two ends of the id classes among them. -/
theorem test_witness_StartOutcomeFollowsCheckOrder :
    ([starting 4 .p1 1 1, starting 3 .p1 253 1, starting 3 .p1 255 1, starting 7 .p1 254 1, starting 7 .p2 252 1,
        starting 1 .p2 254 2, starting 2 .p1 254 1, starting 2 .p1 252 0, starting 3 .p1 1 7, starting 3 .p1 254 8,
        { starting 3 .p1 1 3 with reqPlen := 0xFFFF, mem := [(0x10000, 0)], cfg := { Config.default with txMax1 := 6 } },
        starting 3 .p1 254 3, starting 3 .p1 252 1, starting 7 .p2 254 1].map
      (fun s => (nextOf (step s)).map (fun t => (t.phase, t.done)))) =
    (List.replicate 7 (some (.idle, true)) ++ [some (.rx, false)] ++ List.replicate 3 (some (.idle, true)) ++
      List.replicate 3 (some (.tx, false))) := by decide +kernel

theorem test_witness_StartsRefusedBeforeTheLatch :
    (starting 0 .p1 1 1).events = [.hostWrite 0x08 4 0] ∧ (starting 0 .p1 1 1).phase = .idle ∧
    ¬ ((0 : Word) = 1 ∨ (0 : Word) = 2 ∨ (0 : Word) = 3 ∨ (0 : Word) = 7) ∧ (starting 3 .p1 255 1).reqId = 255 ∧
    (starting 7 .p1 254 1).proto ≠ .p2 ∧
    instrOf (starting 1 .p1 254 2).cfg.opc (starting 1 .p1 254 2).reqInstr = some .read ∧
    configValid (idleWith 2).cfg ∧ (idleWith 2).phase = .idle ∧ (idleWith 2).cmd = 2 := by decide +kernel

/-- For the statements about wire instructions on an idle MPF: both commands, ids at the ends of their classes, a frame as
large as `TXMAX`, and one larger. -/
theorem test_witness_requests :
    configValid (idleWith 1).cfg ∧ (idleWith 1).phase = .idle ∧ (idleWith 3).phase = .idle ∧ (idleWith 1).cmd = 1 ∧
    (idleWith 3).cmd = 3 ∧ (0 : Byte).toNat ≤ 252 ∧ (252 : Byte).toNat ≤ 252 ∧
    frameLength .p1 (List.replicate 244 0) = txMax (idleWith 1).cfg .p1 ∧
    frameLength .p2 (List.replicate 1014 0) = txMax (idleWith 1).cfg .p2 ∧
    (254 : Byte) ≠ 253 ∧ (254 : Byte) ≠ 255 ∧ avail .p1 .write = true ∧
    frameLength .p1 (List.replicate 245 0) > txMax (idleWith 1).cfg .p1 := by decide +kernel

theorem test_witness_PingAndReadStartTransmission :
    (Proto.p2, WireInstr.read, Instr.readP2) ∈
      [(Proto.p1, WireInstr.ping, Instr.pingP1), (.p1, .read, .readP1), (.p2, .ping, .pingP2), (.p2, .read, .readP2)] ∧
    configValid (idleWith 3).cfg ∧ (idleWith 3).phase = .idle ∧ (idleWith 3).cmd = 3 ∧ (252 : Byte).toNat ≤ 252 ∧
    frameLength .p2 (List.replicate 1014 0) ≤ txMax (idleWith 3).cfg .p2 := by
  refine ⟨by simp, ?_⟩
  decide +kernel

theorem test_witness_AnsweredRequestsStartTransmission :
    (Proto.p1, WireInstr.bulkRead, Instr.bulkReadP1) ∈
      [(Proto.p1, WireInstr.write, Instr.writeP1), (.p1, .regWrite, .regWriteP1),
        (.p1, .action, .actionP1), (.p1, .factoryReset, .factoryResetP1), (.p1, .bulkRead, .bulkReadP1),
        (.p2, .write, .writeP2), (.p2, .regWrite, .regWriteP2), (.p2, .action, .actionP2),
        (.p2, .factoryReset, .factoryResetP2), (.p2, .reboot, .rebootP2), (.p2, .syncRead, .syncReadP2),
        (.p2, .bulkRead, .bulkReadP2)] ∧
    configValid (idleWith 1).cfg ∧ (idleWith 1).phase = .idle ∧ (idleWith 1).cmd = 1 ∧
    frameLength .p1 (List.replicate 244 0) ≤ txMax (idleWith 1).cfg .p1 := by
  refine ⟨by simp, ?_⟩
  decide +kernel

theorem test_witness_UnansweredRequestsStartTransmission :
    (Proto.p2, WireInstr.bulkWrite, Instr.bulkWriteP2) ∈
      [(Proto.p1, WireInstr.syncWrite, Instr.syncWriteP1), (.p2, .syncWrite, .syncWriteP2),
        (.p2, .bulkWrite, .bulkWriteP2)] ∧
    configValid (idleWith 3).cfg ∧ (idleWith 3).phase = .idle ∧ (idleWith 3).cmd = 3 ∧
    frameLength .p2 [] ≤ txMax (idleWith 3).cfg .p2 := by
  refine ⟨by simp, ?_⟩
  decide +kernel

theorem test_witness_UnavailableRequestsComplete :
    (Proto.p2, Instr.statusP2) ∈
      [(Proto.p1, Instr.rebootP1), (.p1, .syncReadP1), (.p1, .bulkWriteP1), (.p1, .statusP1), (.p2, .statusP2)] ∧
    configValid (idleWith 3).cfg ∧ (idleWith 3).phase = .idle ∧ (idleWith 3).cmd = 3 ∧ (254 : Byte) ≠ 253 ∧
    (254 : Byte) ≠ 255 := by
  refine ⟨by simp, ?_⟩
  decide +kernel

theorem test_witness_OversizeRequestsCompleteWithTxError :
    configValid (idleWith 1).cfg ∧ avail .p2 .write = true ∧ (idleWith 1).phase = .idle ∧ (idleWith 1).cmd = 1 ∧
    (252 : Byte).toNat ≤ 252 ∧ frameLength .p2 ([0xFF, 0xFF, 0xFD] ++ List.replicate 1011 0) > txMax (idleWith 1).cfg .p2 ∧
    configValid (idleWith 7).cfg ∧ (idleWith 7).phase = .idle ∧ (idleWith 7).cmd = 7 ∧
    (idleWith 7).cfg.txMax2 < frameLength .p2 (List.replicate 1015 0) := by decide +kernel

theorem test_witness_BroadcastPingStartsCollecting :
    configValid (idleWith 7).cfg ∧ (idleWith 7).phase = .idle ∧ (idleWith 7).cmd = 7 ∧
    frameLength .p2 [] ≤ (idleWith 7).cfg.txMax2 := by decide +kernel

/-- An addressed Read and a broadcast Write. -/
theorem test_witness_StartTransmitsTheRequest :
    readReady.phase = .idle ∧ instrOf readReady.cfg.opc readReady.reqInstr = some .read ∧
    avail readReady.proto .read = true ∧ readReady.reqId.toNat ≤ 252 ∧
    frameLength readReady.proto (requestParams readReady) ≤ txMax readReady.cfg readReady.proto ∧
    instrOf (starting 1 .p2 254 3).cfg.opc (starting 1 .p2 254 3).reqInstr = some .write ∧
    (starting 1 .p2 254 3).reqId = 254 ∧ WireInstr.write ≠ .ping ∧ WireInstr.write ≠ .read ∧
    frameLength .p2 (requestParams (starting 1 .p2 254 3)) ≤ txMax (starting 1 .p2 254 3).cfg .p2 := by decide +kernel

/-- A completion and a write to `CTRL` that raise the output; Reset, `CTRL`, `STATUS` and a START that lower it; a START refused
with port busy that leaves it. -/
theorem test_witness_InterruptIsDoneAndEnabled :
    ([{ receiving [.tick] with elapsed := 3, irqEn := true }, { State.reset with done := true, events := [.hostWrite 0x00 4 2] }]
      ++ [Event.reset, .hostWrite 0x00 4 1, .hostWrite 0x04 4 2, .hostWrite 0x08 4 2].map
        (fun e => { State.reset with done := true, irqEn := true, events := [e] })
      ++ [{ receiving [.hostWrite 0x08 4 3] with irqEn := true }]).map
      (fun s => (irq s, (nextOf (step s)).map irq)) =
    List.replicate 2 (false, some true) ++ List.replicate 4 (true, some false) ++ [(false, some false)] := by decide +kernel

theorem test_witness_StartCollectTransmitsTheBroadcastPing :
    (starting 7 .p2 254 1).phase = .idle ∧ (starting 7 .p2 254 1).proto = .p2 ∧ (starting 7 .p2 254 1).reqId = 254 ∧
    instrOf (starting 7 .p2 254 1).cfg.opc (starting 7 .p2 254 1).reqInstr = some .ping ∧
    frameLength .p2 (requestParams (starting 7 .p2 254 1)) ≤ (starting 7 .p2 254 1).cfg.txMax2 := by decide +kernel

theorem test_witness_StartRxReceivesWithoutFlush :
    (starting 2 .p1 252 0).phase = .idle ∧ (starting 2 .p1 252 0).reqId.toNat ≤ 252 ∧ (idleWith 2).phase = .idle ∧
    (idleWith 2).cmd = 2 ∧ (252 : Byte).toNat ≤ 252 := by decide +kernel

theorem test_witness_StepRunsTheDecodedCommand :
    (starting 7 .p2 254 1).events = [.hostWrite 0x08 4 7] ∧
    decode (starting 7 .p2 254 1).cfg .cmd (leBytes 4 (7 : Word).toNat) = .ok .startCollect := by decide +kernel

theorem test_witness_StepRunsTheRequestOfTheRegisters :
    (starting 1 .p1 252 1).events = [.hostWrite 0x08 4 1] ∧ (starting 1 .p1 252 1).phase = .idle ∧
    instrOf (starting 1 .p1 252 1).cfg.opc (starting 1 .p1 252 1).reqInstr = some .ping := by decide +kernel

/-- The last byte of `TXP` that exists and the first that does not. -/
theorem test_witness_RequestParametersComeFromTxp :
    1013 < (0xFFFF : Half).toNat ∧ 1013 < txpCap Config.default ∧
    Memory.read? [(0x103F5, 9)] (0x10000 + 1013) = some 9 ∧ txpCap Config.default ≤ 1014 := by decide +kernel

theorem test_witness_TransmitEventsFollowTheRules :
    (transmitting [7, 8] true [.txAccept]).events = [.txAccept] ∧ (transmitting [7, 8] true [.txAccept]).phase = .tx ∧
    (transmitting [7, 8] true [.txAccept]).txq = [7, 8] ∧ (transmitting [7] true [.txAccept]).txq = [7] ∧
    (transmitting [7] false [.txRefuse]).events = [.txRefuse] := by decide +kernel

/-- Below, at and above the budget, with and without collected ids, and at the end of the counter. -/
theorem test_witness_TickFollowsTheRule :
    ([transmitting [7] true [.tick], { receiving [.tick] with elapsed := 2 }, { receiving [.tick] with elapsed := 3 },
        { receiving [.tick] with elapsed := 3, curCollect := true, idcount := 1 },
        { receiving [.tick] with elapsed := 3, curCollect := true, idcount := 0 },
        { receiving [.tick] with elapsed := 0xFFFFFFFF, budget := 0xFFFFFFFF }].map
      (fun s => (nextOf (step s)).map (fun t => (t.phase, t.elapsed, t.result)))) =
    [some (.tx, 0, .none), some (.rx, 3, .none), some (.idle, 4, .rxTimeout), some (.idle, 4, .success),
      some (.idle, 4, .rxTimeout), some (.rx, 0xFFFFFFFF, .none)] := by decide +kernel

/-- A P1 status frame but for its last byte. -/
def almostStatus : List Byte := [0xFF, 0xFF, 0x01, 0x03, 0x00, 0x20]

/-- Outside the receive phase; then a waiting buffer, a corrupt one, an accepted frame, a frame of another id. -/
theorem test_witness_ReceivedByteFollowsTheVerdict :
    ([transmitting [7] true [.rxByte 0], receiving [.rxByte 0xFF],
        { receiving [.rxByte 0xDC] with rxbuf := almostStatus }, { receiving [.rxByte 0xDB] with rxbuf := almostStatus },
        { receiving [.rxByte 0xDB] with rxbuf := almostStatus, curId := 2 }].map
      (fun s => (nextOf (step s)).map (fun t => (t.phase, t.corruptSeen, t.idmissSeen, t.mem.read? 0x20000)))) =
    [some (.tx, false, false, none), some (.rx, false, false, none), some (.rx, true, false, none),
      some (.idle, false, false, some 0x20), some (.rx, false, true, none)] := by decide +kernel

/-- In collect mode a frame recorded, at both ends of the ids, and one of the broadcast id, not recorded. -/
theorem test_witness_ReceivedByteFollowsTheVerdict_collect :
    ([([0xFF, 0xFF, 0x00, 0x03, 0x00, 0x20], 0xDC), ([0xFF, 0xFF, 0xFC, 0x03, 0x00, 0x20], 0xE0),
        ([0xFF, 0xFF, 0xFE, 0x03, 0x00, 0x20], 0xDE)].map
      (fun (p : List Byte × Byte) => (nextOf (step
        { receiving [.rxByte p.2] with rxbuf := p.1, curCollect := true, curId := 254 })).map
          (fun t => (t.idmap.toNat, t.idcount, t.idmissSeen)))) =
    [some (1, 1, false), some (2 ^ 252, 1, false), some (0, 0, true)] := by decide +kernel

theorem test_witness_TransmitPhaseSendsExactlyTheFrame :
    (transmitting [7, 8] true [.tick, .txAccept, .hostRead 0 4, .txAccept]).phase = .tx ∧
    (transmitting [7, 8] true [.tick, .txAccept, .hostRead 0 4, .txAccept]).txq ≠ [] ∧
    (transmitting [7, 8] true [.tick, .txAccept, .hostRead 0 4, .txAccept]).events =
      [.tick, .txAccept, .hostRead 0 4] ++ Event.txAccept :: [] ∧
    (∀ e ∈ [Event.tick, .txAccept, .hostRead 0 4], e ≠ .txRefuse ∧ e ≠ .reset) ∧
    [Event.tick, .txAccept, .hostRead 0 4].count .txAccept + 1 = [(7 : Byte), 8].length := by decide +kernel

/-- Silence of exactly the budget and of one tick more, and a run with traffic that goes on. -/
theorem test_witness_TimeoutFallsOnTheTickAfterTheBudget :
    (receiving (List.replicate 3 .tick ++ [])).phase = .rx ∧ (receiving []).elapsed = 0 ∧
    (receiving []).curCollect = false ∧ 3 ≤ (receiving []).budget.toNat ∧ 4 = (receiving []).budget.toNat + 1 ∧
    (receiving []).budget.toNat < 2 ^ 32 - 1 ∧
    (nextOf (run 3 (receiving [.tick, .rxByte 5, .tick]))).map (fun t => t.phase) = some .rx := by decide +kernel

/-- MPF receiving in P2 with one of the two status forms. -/
def receivingP2 (form : StatusForm) (es : List Event) : State :=
  { receiving es with curProto := .p2, cfg := { Config.default with statusForm := form } }

theorem test_witness_StatusFrameOfTheDeviceIsAccepted :
    configValid (receiving []).cfg ∧ (receiving []).phase = .rx ∧ (receiving []).rxbuf = [] ∧
    (receiving []).curCollect = false ∧ (receiving []).curId.toNat ≤ 252 ∧ (receiving []).curProto = .p1 ∧
    (List.replicate 244 (0 : Byte)).length + 6 ≤ (receiving []).cfg.rxMax1 ∧
    (receivingP2 .errInSlot []).cfg.statusForm = .errInSlot ∧ (receivingP2 .errInSlot []).curProto = .p2 ∧
    (stuff (List.replicate 1014 0)).length + 10 ≤ (receivingP2 .errInSlot []).cfg.rxMax2 ∧
    (receivingP2 .instrThenErr []).cfg.statusForm = .instrThenErr ∧ configValid (receivingP2 .instrThenErr []).cfg ∧
    (stuff (0x80 :: List.replicate 1013 0)).length + 10 ≤ (receivingP2 .instrThenErr []).cfg.rxMax2 := by decide +kernel

theorem test_witness_ForeignFrameIsDiscarded :
    configValid (receiving []).cfg ∧ (receiving []).phase = .rx ∧ (receiving []).rxbuf = [] ∧
    (receiving []).curCollect = false ∧ (254 : Byte) ≠ (receiving []).curId ∧ (254 : Byte) ≠ 253 ∧ (254 : Byte) ≠ 255 ∧
    frameLength (receiving []).curProto (List.replicate 244 0) ≤ rxMax (receiving []).cfg (receiving []).curProto := by
  decide +kernel

theorem test_witness_ResetEventLeavesTheResetValues :
    (transmitting [7] true [.reset, .tick]).events = .reset :: [.tick] := by decide +kernel

/-- A read-write register, a read-only one, an offset that is not listed, the last register offset. -/
theorem test_witness_RegisterWritesFollowTheMap :
    ({ State.reset with events := [.hostWrite 0x10 4 0x12345678, .hostRead 0x10 4] } : State).events =
      [.hostWrite 0x10 4 0x12345678, .hostRead 0x10 4] ∧
    (0x20 ∉ [0x00, 0x04, 0x08, 0x0C, 0x10, 0x14, 0x18, 0x1C]) ∧ (0xFFFC ∉ [0x00, 0x04, 0x08, 0x0C, 0x10, 0x14, 0x18, 0x1C]) ∧
    0xFFFC < 0x10000 ∧ (receiving [.hostWrite 0x04 4 6]).events = [.hostWrite 0x04 4 6] := by decide +kernel

/-- A write of all ones to each read-write register of a busy MPF. -/
theorem test_witness_RegisterWritesFollowTheMap_each :
    ([0x00, 0x0C, 0x10, 0x14, 0x18, 0x1C].map
      (fun a => (nextOf (step (receiving [.hostWrite a 4 0xFFFFFFFF]))).map (fun t =>
        (t.proto, t.irqEn,
        [t.reqId.toNat, t.reqPlen.toNat, t.reqRxlen.toNat, t.tLat.toNat, t.tByte.toNat, t.tSlack.toNat])))) =
    [some (.p2, true, [0, 0, 0, 0, 0, 0]), some (.p1, false, [0xFF, 0xFFFF, 0, 0, 0, 0]),
      some (.p1, false, [0, 0, 0xFFFF, 0, 0, 0]), some (.p1, false, [0, 0, 0, 0xFFFFFFFF, 0, 0]),
      some (.p1, false, [0, 0, 0, 0, 0xFFFF, 0]), some (.p1, false, [0, 0, 0, 0, 0, 0xFFFFFFFF])] := by decide +kernel

/-- Every register read in a state with distinct values, and the offsets around the id map. -/
theorem test_witness_RegisterReadsFollowTheMap :
    ([0x00, 0x04, 0x08, 0x0C, 0x10, 0x14, 0x18, 0x1C, 0x20, 0x24, 0x28, 0x2C, 0x30, 0x3C, 0x40, 0x5C, 0x60].map
      (fun a => (nextOf (step
        { receiving [.hostRead a 4] with
          proto := .p2, irqEn := true, corruptSeen := true, reqId := 1, reqInstr := 2, reqPlen := 3, reqRxlen := 4
          tLat := 5, tByte := 6, tSlack := 7, result := .txError, resId := 8, resErr := 9, resPlen := 10, elapsed := 11
          idcount := 12, idmap := 13#256 ||| (1#256 <<< 252) })).map (fun t => t.rdata))) =
    [some 3, some 0x49, some 0, some 0x30201, some 4, some 5, some 6, some 7, some 4, some 0xA0908, some 3, some 11,
      some 12, some 0, some 13, some 0x10000000, some 0] := by decide +kernel

/-- A write of four bytes that crosses `TXPCAP` (`95_test_vectors.md` T109c), reads that cross either capacity, the last bytes
of both windows. -/
theorem test_witness_BufferAccessesAreLittleEndian :
    1012 + 4 ≤ 0x10000 ∧ 1010 + 4 ≤ txpCap State.reset.cfg ∧ 0xFFFC + 4 ≤ 0x10000 ∧ 0xFFFF < 0x10000 ∧
    ((nextOf (step { State.reset with events := [.hostWrite 0x103F4 4 0x04030201] })).map (fun t =>
      [0x103F3, 0x103F4, 0x103F5, 0x103F6, 0x103F7].map t.mem.read?)) = some [none, some 1, some 2, none, none] ∧
    ([(0x103F5, 2), (0x203F4, 4), (0x20000, 1), (0x2FFFC, 4)].map (fun (p : Nat × Nat) =>
      (nextOf (step { State.reset with
        events := [.hostRead p.1 p.2], mem := [(0x103F5, 9), (0x20000, 7), (0x203F4, 5), (0x203F5, 6)] })).map
          (fun t => t.rdata))) = [some 9, some 0x0605, some 7, some 0] ∧
    rxpCap State.reset.cfg = 1014 := by decide +kernel

/-- One illegal access of each kind. -/
theorem test_witness_IllegalAccessesHaveNoEffect :
    (0xFFFE < 0x10000 ∧ ¬ (4 = 4 ∧ 0xFFFE % 4 = 0)) ∧ (0x08 < 0x10000 ∧ ¬ (2 = 4 ∧ 0x08 % 4 = 0)) ∧
    (0x10000 ≤ 0x10000 ∧ ¬ (3 = 1 ∨ 3 = 2 ∨ 3 = 4)) ∧ (0x1FFFD < 0x10000 + 0x10000 ∧ 0x10000 ≤ 0x1FFFD ∧ 0x20000 < 0x1FFFD + 4) ∧
    (0x20000 ≤ 0x2FFFF ∧ 0x30000 < 0x2FFFF + 2) := by decide +kernel

/-- A busy state with data in both buffers that meets every invariant, its next event a byte that completes a response. -/
def busyState : State :=
  { receiving [.rxByte 0xDB] with
    rxbuf := almostStatus
    mem := [(0x10000, 0x24), (0x103F5, 1), (0x20000, 5), (0x20001, 6)]
    resPlen := 2
    result := .success
    idmap := 1#256 <<< 252
    idcount := 1
    elapsed := 3 }

/-- The hypotheses of every statement that a step keeps an invariant. -/
theorem test_witness_StepKeepsTheInvariants : ∃ t, Inv busyState ∧ step busyState = .next t := by
  refine ⟨_, ?_, rfl⟩
  refine ⟨⟨?_, ?_⟩, ⟨?_, ?_⟩, fun _ => ?_, ⟨?_, ?_, ?_, ?_⟩, ⟨?_, ?_⟩, fun _ => ?_, ⟨?_, ?_, ?_⟩⟩ <;> try decide +kernel
  exact ⟨rfl, by decide +kernel, by decide +kernel⟩

/-- One step for every row of `43_sequencer.md` R203 that changes the phase. -/
theorem test_witness_PhaseChangesOnlyByTheTable :
    ([transmitting [7] true [.reset], starting 3 .p1 1 1, starting 2 .p1 252 1, transmitting [7] true [.txAccept],
        transmitting [7] false [.txAccept], transmitting [7] true [.txRefuse],
        { receiving [.rxByte 0xDB] with rxbuf := almostStatus }, { receiving [.tick] with elapsed := 3 },
        { receiving [.tick] with elapsed := 3, curCollect := true, idcount := 1 }].map
      (fun s => (nextOf (step s)).map (fun t => (s.phase, t.phase, t.result)))) =
    [some (.tx, .idle, .none), some (.idle, .tx, .none), some (.idle, .rx, .none), some (.tx, .rx, .none),
      some (.tx, .idle, .success), some (.tx, .idle, .txFail), some (.rx, .idle, .success), some (.rx, .idle, .rxTimeout),
      some (.rx, .idle, .success)] := by decide +kernel

theorem test_witness_OutputsComeOnlyFromStartAndAccept :
    (nextOf (step (starting 3 .p1 1 1))).map (fun t => t.out) = some [.flush] ∧
    (nextOf (step (transmitting [7] true [.txAccept]))).map (fun t => t.out) = some [.txByte 7] := by decide +kernel

theorem test_witness_OnlyTheHostWritesTheRequestRegisters :
    ∃ t, step busyState = .next t ∧ Event.rxByte 0xDB ≠ .reset ∧
      ∀ a n v, Event.rxByte 0xDB = .hostWrite a n v → a = 0x08 :=
  ⟨_, rfl, by decide, fun _ _ _ h => nomatch h⟩

theorem test_witness_HostWritesDoNotDisturbTheRequestInFlight :
    busyState.mem.wf ∧ 0x10003 ≠ 0x04 ∧ 0x10003 ≠ 0x08 ∧ ∃ b, Event.rxByte 0xDB = .rxByte b :=
  ⟨by decide +kernel, by decide, by decide, 0xDB, rfl⟩

/-- A memory that differs from `readReady`'s just beyond `PLEN` and in `RXP`. -/
theorem test_witness_StaleBufferBytesDoNoHarm :
    readReady.reqPlen.toNat = 2 ∧
    (∀ k, k < 2 → readReady.mem.read? (0x10000 + k) = [some 0x24, some 0x01][k]! ∧
      Memory.read? [(0x10000, 0x24), (0x10001, 0x01), (0x10002, 0x77), (0x20000, 0x88)] (0x10000 + k) =
        [some 0x24, some 0x01][k]!) ∧
    ∃ t, exec .startTxrx readReady = .next t := by
  refine ⟨rfl, ?_, _, rfl⟩
  decide +kernel

theorem test_witness_ResultRegistersChangeOnlyBySuccess :
    (nextOf (step busyState)).map (fun t => t.resId) ≠ some busyState.resId := by decide +kernel

/-- One step that sets and one that clears each flag. -/
theorem test_witness_FlagsChangeOnlyByTheTable :
    ([{ receiving [.tick] with elapsed := 3 }, { State.reset with done := true, events := [.hostWrite 0x04 4 2] },
        { starting 3 .p1 1 1 with done := true, corruptSeen := true, idmissSeen := true }, receiving [.hostWrite 0x08 4 3],
        { receiving [.hostWrite 0x04 4 4] with busyReject := true },
        { receiving [.rxByte 0xDC] with rxbuf := almostStatus },
        { receiving [.rxByte 0xDB] with rxbuf := almostStatus, curId := 2 }].map
      (fun s => (nextOf (step s)).map (fun t =>
        [(statusWord s).getLsbD 0, (statusWord t).getLsbD 0, t.done, t.busyReject, t.corruptSeen, t.idmissSeen]))) =
    [some [true, false, true, false, false, false], some [false, false, false, false, false, false],
      some [false, true, false, false, false, false], some [true, true, false, true, false, false],
      some [true, true, false, false, false, false], some [true, true, false, false, true, false],
      some [true, true, false, false, false, true]] := by decide +kernel

/-- A sum of exactly 2^32 - 1, one that passes it, and a budget of 0. -/
theorem test_witness_SaturatedBudgetNeverExpires :
    2 ^ 32 - 1 ≤ (0xFFFFFFFE : Word).toNat + (1 : Half).toNat * (1 : Half).toNat + (0 : Word).toNat ∧
    2 ^ 32 - 1 ≤ (0xFFFFFFFF : Word).toNat + (0xFFFF : Half).toNat * (0xFFFF : Half).toNat + (0xFFFFFFFF : Word).toNat ∧
    (0 : Byte).toNat ≤ 252 ∧ (0xFFFFFFFF : Word).toNat = 2 ^ 32 - 1 ∧
    ({ receiving [.tick] with budget := 0 } : State).budget = 0 ∧ (receiving [.tick]).elapsed = 0 := by decide +kernel

/-- The response of `44_instructions.md` R254 as R275's example holds it, `done` or still awaited. -/
def answered (done : Bool) (n : Half) : State :=
  { State.reset with
    done := done, result := .success, resId := 1, resPlen := n
    mem := [(0x20000, 0xA6), (0x20001, 0), (0x20002, 0), (0x20003, 0)] }

theorem test_witness_ReadWrapperExchangesTheRequest :
    configValid State.reset.cfg ∧ State.reset.phase = .idle ∧ (252 : Byte).toNat ≤ 252 ∧ 4 ≤ txpCap State.reset.cfg ∧
    (∃ es, readExpansion State.reset.cfg .p1 252 0x24 1 = .ok es) ∧
    (∃ es, readExpansion State.reset.cfg .p2 252 0xFFFF 0xFFFD = .ok es) ∧ 8 ≤ State.reset.cfg.txMax1 ∧
    15 ≤ State.reset.cfg.txMax2 ∧ (∀ u ∈ [Turn.host], u = .host) ∧ (answered false 4).done = false ∧
    (answered true 3).done = true ∧ (answered true 3).resPlen.toNat < 4 ∧ (answered true 4).result = .success ∧
    4 ≤ (answered true 4).resPlen.toNat ∧ 3 ≤ rxpCap (answered true 4).cfg ∧
    ∀ i, i < 4 → (answered true 4).mem.read? (0x20000 + i) = [(0xA6 : Byte), 0, 0, 0][i]? :=
  ⟨by decide +kernel, rfl, by decide, by decide +kernel, ⟨_, rfl⟩, ⟨_, rfl⟩, by decide +kernel, by decide +kernel,
    by decide, rfl, rfl, by decide +kernel, rfl, by decide +kernel, by decide +kernel, by decide +kernel⟩

/-! ## The wrappers -/

/-- What a script has returned, and whether it left `DONE` standing. -/
def returned {α : Type} (x : Option (Script α × State)) : Option (α × Bool) :=
  match x with
  | some (.ret a, t) => some (a, t.done)
  | _ => none

/-- `44_instructions.md` R275's example, its value 166; a read of three bytes; a response too short. -/
theorem test_readFinish :
    returned (play (List.replicate 5 .host) (readFinish 4) (answered true 4)) = some (⟨0, some 0, .number 166⟩, false) ∧
    returned (play (List.replicate 7 .host) (readFinish 3) (answered true 4)) =
      some (⟨0, some 0, .bytes [0xA6, 0, 0]⟩, false) ∧
    returned (play (List.replicate 4 .host) (readFinish 4) (answered true 3)) = some (⟨0, some 0, .nothing⟩, false) := by
  decide +kernel

/-- `44_instructions.md` R276, R277: a write to the broadcast id, and one of no bytes. -/
theorem test_writeScript :
    returned (play (List.replicate 5 .host ++ List.replicate 8 (.other .txAccept) ++ List.replicate 4 .host)
      (writeScript Config.default .p1 .write 254 0x1E [0x20]) State.reset) = some (⟨0, some 0, .nothing⟩, false) ∧
    returned (play [.host] (writeScript Config.default .p1 .write 254 0x1E []) State.reset) =
      some (⟨8, none, .nothing⟩, false) := by decide +kernel

/-- The end of `44_instructions.md` R279's example: ids 1 and 2 collected. -/
theorem test_collectedIds : collectedIds [6, 0, 0, 0, 0, 0, 0, 0] = [1, 2] := by decide +kernel

/-- `44_instructions.md` R283: one harvest per expected frame, in list order: the first device answers, the second does not. -/
theorem test_harvestAll :
    returned (play (List.replicate 3 .host ++ (almostStatus ++ [0xDB]).map (fun b => .other (.rxByte b)) ++
        List.replicate 7 .host ++ [.other .tick] ++ List.replicate 3 .host)
      (harvestAll [(1, 7), (2, 7)] .ret) State.reset) =
    some ([⟨0, 1, 0, [0x20]⟩, ⟨6, 1, 0, []⟩], true) := by decide +kernel

end Sys2Proof.Tests
end

