-- ==== Sys2Proof/Proofs/QueueInvariant.lean ====
section
/-! The queues of each phase (`10_state.md` R37): the scanner and encoder facts the invariant rests on, each event, the step. -/

namespace Sys2Proof.Machine

/-! ## What the scanner waits on (`42_decode.md` R178, R179) -/

section Scanner

variable {c : Config} {p : Proto} {f k buf keep : List Byte}

theorem headerMark_length_lt_lenEnd (p : Proto) : (headerMark p).length < lenEnd p := by cases p <;> decide

theorem lenEnd_le_lenMin_add_lenOverhead (p : Proto) : lenEnd p ≤ lenMin p + lenOverhead p := by cases p <;> decide

theorem lenEnd_lt_rxMax (hc : configValid c) (p : Proto) : lenEnd p < rxMax c p := by
  obtain ⟨-, ⟨h1, -⟩, -, ⟨h2, -⟩, -⟩ := hc
  cases p <;> simp only [lenEnd, rxMax] <;> omega

theorem byteAt_append {i : Nat} (h : i < k.length) (l : List Byte) : byteAt (k ++ l) i = byteAt k i :=
  List.getD_append k l 0 i h

/-- The length field, once whole, does not depend on what arrives after it. -/
theorem lenOf_append (h : lenEnd p ≤ k.length) (l : List Byte) : lenOf p (k ++ l) = lenOf p k := by
  cases p <;> simp only [lenEnd] at h
  · simp only [lenOf, byteAt_append (show 3 < k.length by omega)]
  · simp only [lenOf, byteAt_append (show 5 < k.length by omega), byteAt_append (show 6 < k.length by omega)]

/-- From a marker on, the scanner waits with the whole buffer, for the length field or for the rest of a frame that fits. -/
theorem scanFrom_needMore (h : scanFrom c p f = .needMore keep) :
    keep = f ∧ (f.length < lenEnd p ∨
      lenEnd p ≤ f.length ∧ f.length < lenOf p f + lenOverhead p ∧ lenOf p f + lenOverhead p ≤ rxMax c p) := by
  rcases scanFrom_cases c p f with ⟨e, hl⟩ | ⟨e, -⟩ | ⟨hl, -, -, hmax, ⟨e, hlt⟩ | ⟨-, -, e⟩⟩ <;> rw [e] at h
  · exact ⟨(Verdict.needMore.inj h).symm, .inl hl⟩
  · cases h
  · exact ⟨(Verdict.needMore.inj h).symm, .inr ⟨hl, hlt, hmax⟩⟩
  · cases h

/-- A frame takes `LEN + OV` bytes, at least the whole length field, and leaves the rest. -/
theorem scanFrom_frame {id ie : Byte} {ps rest : List Byte} (h : scanFrom c p f = .frame id ie ps rest) :
    lenEnd p ≤ f.length ∧ lenEnd p ≤ lenOf p f + lenOverhead p ∧ rest = f.drop (lenOf p f + lenOverhead p) := by
  have hmin := lenEnd_le_lenMin_add_lenOverhead p
  rcases scanFrom_cases c p f with ⟨e, -⟩ | ⟨e, -⟩ | ⟨hl, -, hlen, -, ⟨e, -⟩ | ⟨-, -, e⟩⟩ <;> rw [e] at h
  · cases h
  · cases h
  · cases h
  · exact ⟨hl, by omega, (Verdict.frame.inj h).2.2.2.symm⟩

/-- Either no marker stands in the buffer and all of it is kept, or it is kept from the first marker on. -/
theorem scan_needMore (h : scan c p buf = .needMore keep) :
    (findHeader p buf = none ∧ keep = buf ∧ buf.length < rxMax c p) ∨
      (headerMark p <+: keep ∧ scanFrom c p keep = .needMore keep) := by
  rcases scan_cases c p buf with ⟨hn, hl, e⟩ | ⟨-, -, e⟩ | ⟨i, hi, e⟩ <;> rw [e] at h
  · exact .inl ⟨hn, (Verdict.needMore.inj h).symm, hl⟩
  · cases h
  · obtain ⟨rfl, -⟩ := scanFrom_needMore h
    exact .inr ⟨(findHeader_some hi).2, h⟩

/-- What the scanner keeps it waits on again. -/
theorem scan_keep (h : scan c p buf = .needMore keep) : scan c p keep = .needMore keep := by
  rcases scan_needMore h with ⟨-, rfl, -⟩ | ⟨hm, hk⟩
  · exact h
  · rw [scan_of_mark hm, hk]

theorem scan_keep_length_lt (hc : configValid c) (h : scan c p buf = .needMore keep) : keep.length < rxMax c p := by
  rcases scan_needMore h with ⟨-, rfl, hl⟩ | ⟨-, hk⟩
  · exact hl
  · have hend := lenEnd_lt_rxMax hc p
    obtain ⟨-, hl | ⟨-, hlt, hmax⟩⟩ := scanFrom_needMore hk <;> omega

theorem scan_nil (hc : configValid c) (p : Proto) : scan c p [] = .needMore [] := by
  have hend := lenEnd_lt_rxMax hc p
  simp only [scan, findHeader, List.length_nil, ge_iff_le]
  rw [if_neg (by omega)]

/-- A frame completed by one more byte starts at a marker the buffer already held: a marker just completed has no length field. -/
theorem headerMark_prefix_of_scan_append_frame {b id ie : Byte} {ps rest : List Byte}
    (hk : scan c p k = .needMore k) (h : scan c p (k ++ [b]) = .frame id ie ps rest) :
    headerMark p <+: k ∧ scanFrom c p k = .needMore k := by
  rcases scan_needMore hk with ⟨hn, -⟩ | hm
  · rcases scan_cases c p (k ++ [b]) with ⟨-, -, e⟩ | ⟨-, -, e⟩ | ⟨i, hi, e⟩ <;> rw [e] at h
    · cases h
    · cases h
    · obtain ⟨hlt, hpre⟩ := findHeader_some hi
      have hend := (scanFrom_frame h).1
      rw [List.drop_append_of_le_length (by simpa [Nat.lt_succ_iff] using hlt)] at hpre hend
      have hmark : headerMark p = k.drop i ++ [b] :=
        (List.prefix_concat_iff.mp hpre).resolve_right (findHeader_none hn i)
      have := headerMark_length_lt_lenEnd p
      rw [hmark] at this
      omega
  · exact hm

/-- The byte that completes a frame is its last: a waiting buffer holds less than the frame. -/
theorem scan_append_frame_rest {b id ie : Byte} {ps rest : List Byte}
    (hk : scan c p k = .needMore k) (h : scan c p (k ++ [b]) = .frame id ie ps rest) : rest = [] := by
  obtain ⟨hmark, hwait⟩ := headerMark_prefix_of_scan_append_frame hk h
  rw [scan_of_mark (hmark.trans (List.prefix_append k [b]))] at h
  obtain ⟨-, hend, rfl⟩ := scanFrom_frame h
  rw [List.drop_eq_nil_iff, List.length_append, List.length_singleton]
  obtain ⟨-, hl | ⟨hl, hlt, -⟩⟩ := scanFrom_needMore hwait
  · omega
  · rw [lenOf_append hl]
    omega

end Scanner

/-! ## What the encoder hands to the transmit phase -/

/-- A frame of `EncodeReq` has a byte to transmit and fits the transmit limit (`41_encode.md` R158). -/
theorem encodeReq_frame_length {c : Config} {p : Proto} {id b : Byte} {ps f : List Byte}
    (h : encodeReq c p id b ps = .frame f) : f ≠ [] ∧ f.length ≤ txMax c p := by
  unfold encodeReq at h
  split at h
  · cases h
  split at h
  · cases h
  split at h
  · cases h
  split at h
  · cases h
  · cases h
    have hlen := frame_length c p id b ps
    have hpos : 0 < frameLength p ps := by cases p <;> simp [frameLength]
    exact ⟨List.ne_nil_of_length_pos (by omega), by omega⟩

/-! ## The invariant, phase by phase -/

section Phases

variable {s t : State}

theorem queueInv_idle (hp : s.phase = .idle) : QueueInv s ↔ configValid s.cfg ∧ s.txq = [] ∧ s.rxbuf = [] := by
  simp only [QueueInv, hp]

theorem queueInv_tx (hp : s.phase = .tx) :
    QueueInv s ↔ configValid s.cfg ∧ s.txq ≠ [] ∧ s.txq.length ≤ txMax s.cfg s.curProto ∧ s.rxbuf = [] := by
  simp only [QueueInv, hp]

theorem queueInv_rx (hp : s.phase = .rx) :
    QueueInv s ↔ configValid s.cfg ∧ s.txq = [] ∧ s.rxbuf.length < rxMax s.cfg s.curProto ∧
      scan s.cfg s.curProto s.rxbuf = .needMore s.rxbuf := by
  simp only [QueueInv, hp]

theorem QueueInv.cfgValid (h : QueueInv s) : configValid s.cfg := h.1

/-- A completed request leaves both queues empty, whatever they held. -/
theorem queueInv_complete (hc : configValid s.cfg) (code : CommResult) : QueueInv (complete code s) :=
  (queueInv_idle rfl).mpr ⟨hc, rfl, rfl⟩

theorem queueInv_completeWith (hc : configValid s.cfg) (id err : Byte) (data : List Byte) :
    QueueInv (completeWith id err data s) :=
  queueInv_complete (s := { s with
    resId := id, resErr := err, resPlen := BitVec.ofNat 16 data.length, mem := s.mem.writeList rxpBase data }) hc _

/-- The receive phase may always go on with an empty buffer. -/
theorem queueInv_rx_nil (hc : configValid s.cfg) (hp : s.phase = .rx) (hq : s.txq = []) (hb : s.rxbuf = []) :
    QueueInv s := by
  have hend := lenEnd_lt_rxMax hc s.curProto
  rw [queueInv_rx hp, hb]
  exact ⟨hc, hq, by simp only [List.length_nil]; omega, scan_nil hc _⟩

end Phases

/-! ## Each event keeps it -/

section Events

variable {s t : State}

theorem writeReg_queueInv (h : QueueInv s) (r : Reg) (v : Word) : QueueInv (writeReg r v s) := by
  cases r <;> exact h

/-- The host's accesses other than START reach no queue. -/
theorem hostWrite_queueInv (h : QueueInv s) (a n : Nat) (v : Word) : QueueInv (hostWrite a n v s) := by
  rcases hostWrite_cases a n v s with ⟨r, e⟩ | ⟨i, e⟩ | e <;> rw [e]
  · exact writeReg_queueInv h r v
  · exact h
  · exact h

theorem transmit_queueInv (hc : configValid s.cfg) (hb : s.rxbuf = []) (v : Word) (id b : Byte) (ps : List Byte) :
    QueueInv (transmit v s.curProto id b ps s) := by
  rcases transmit_cases v s.curProto id b ps s with ⟨-, e⟩ | ⟨-, e⟩ | ⟨f, hf, e⟩ <;> rw [e]
  · exact queueInv_complete (s := emit .flush s) hc _
  · exact queueInv_complete (s := emit .flush s) hc _
  · obtain ⟨hne, hlen⟩ := encodeReq_frame_length hf
    exact (queueInv_tx rfl).mpr ⟨hc, hne, hlen, hb⟩

theorem start_queueInv (h : QueueInv s) (v : Word) (p : Proto) (id b : Byte) (ps : List Byte) :
    QueueInv (start v p id b ps s) := by
  have hc := h.cfgValid
  rcases start_cases v p id b ps s with ⟨-, e⟩ | ⟨-, -, e⟩ | ⟨-, -, -, -, e⟩ | ⟨hp, -, -, -, e⟩ <;> rw [e]
  · exact h
  · exact queueInv_complete (s := clearForStart s) hc _
  · exact transmit_queueInv (s := latch v p id (clearForStart s)) hc rfl v id b ps
  · obtain ⟨-, hq, -⟩ := (queueInv_idle hp).mp h
    exact queueInv_rx_nil hc rfl hq rfl

theorem startEvent_queueInv (h : QueueInv s) {v : Word} (ht : startEvent v s = .next t) : QueueInv t := by
  rcases startEvent_cases v s with ⟨-, e⟩ | ⟨-, -, e⟩ | ⟨-, -, -, -, e⟩ <;> rw [e] at ht <;> cases ht
  · exact h
  · exact start_queueInv (s := afterFetch v s) h ..
  · exact start_queueInv (s := { s with cmd := v }) h ..

theorem txAccept_queueInv (h : QueueInv s) : QueueInv (txAccept s) := by
  rcases txAccept_cases s with ⟨b, rest, hp, hq, hne, e⟩ | ⟨b, hp, -, -, e⟩ | ⟨b, -, -, -, e⟩ | ⟨-, e⟩ <;> rw [e]
  · obtain ⟨hc, -, hlen, hb⟩ := (queueInv_tx hp).mp h
    rw [hq, List.length_cons] at hlen
    exact (queueInv_tx (s := emit (.txByte b) { s with txq := rest }) hp).mpr ⟨hc, hne, Nat.le_of_succ_le hlen, hb⟩
  · obtain ⟨hc, -, -, hb⟩ := (queueInv_tx hp).mp h
    exact queueInv_rx_nil hc rfl rfl hb
  · exact queueInv_completeWith (s := emit (.txByte b) { s with txq := [] }) h.cfgValid ..
  · exact h

theorem txRefuse_queueInv (h : QueueInv s) : QueueInv (txRefuse s) := by
  rcases txRefuse_cases s with ⟨-, e⟩ | ⟨-, e⟩ <;> rw [e]
  · exact queueInv_complete h.cfgValid _
  · exact h

theorem collectFrame_queueInv (h : QueueInv s) (id : Byte) (sv : Option Status) : QueueInv (collectFrame id sv s) := by
  rcases collectFrame_cases id sv s with ⟨-, -, e⟩ | ⟨-, e⟩ <;> rw [e] <;> exact h

theorem responseFrame_queueInv (h : QueueInv s) (id : Byte) (sv : Option Status) : QueueInv (responseFrame id sv s) := by
  rcases responseFrame_cases id sv s with ⟨st, -, -, e⟩ | ⟨-, e⟩ <;> rw [e]
  · exact queueInv_completeWith h.cfgValid ..
  · exact h

theorem rxByte_queueInv (h : QueueInv s) (b : Byte) : QueueInv (rxByte b s) := by
  have hc := h.cfgValid
  have frameTaken {id ie : Byte} {ps rest : List Byte} (hp : s.phase = .rx)
      (hf : scan s.cfg s.curProto (s.rxbuf ++ [b]) = .frame id ie ps rest) : QueueInv { s with rxbuf := rest } := by
    obtain ⟨-, hq, -, hw⟩ := (queueInv_rx hp).mp h
    exact queueInv_rx_nil hc hp hq (scan_append_frame_rest hw hf)
  rcases rxByte_cases b s with ⟨k, hp, hk, e⟩ | ⟨hp, -, e⟩ | ⟨id, ie, ps, rest, hp, hf, -, e⟩ |
    ⟨id, ie, ps, rest, hp, hf, -, e⟩ | ⟨-, e⟩ <;> rw [e]
  · obtain ⟨-, hq, -⟩ := (queueInv_rx hp).mp h
    exact (queueInv_rx (s := { s with rxbuf := k }) hp).mpr ⟨hc, hq, scan_keep_length_lt hc hk, scan_keep hk⟩
  · obtain ⟨-, hq, -⟩ := (queueInv_rx hp).mp h
    exact queueInv_rx_nil hc hp hq rfl
  · exact collectFrame_queueInv (frameTaken hp hf) ..
  · exact responseFrame_queueInv (frameTaken hp hf) ..
  · exact h

theorem tick_queueInv (h : QueueInv s) : QueueInv (tick s) := by
  have hc := h.cfgValid
  rcases tick_cases s with ⟨-, -, e⟩ | ⟨-, -, -, -, e⟩ | ⟨-, -, -, e⟩ | ⟨-, e⟩ <;> rw [e]
  · exact h
  · exact queueInv_completeWith (s := { s with elapsed := satTW (s.elapsed.toNat + 1) }) hc ..
  · exact queueInv_complete (s := { s with elapsed := satTW (s.elapsed.toNat + 1) }) hc _
  · exact h

theorem perform_queueInv (h : QueueInv s) {e : Event} (ht : perform e s = .next t) : QueueInv t := by
  cases e with
  | reset => cases ht; exact (queueInv_idle rfl).mpr ⟨h.cfgValid, rfl, rfl⟩
  | hostRead a n => cases ht; exact h
  | hostWrite a n v =>
    simp only [perform] at ht
    split at ht
    · exact startEvent_queueInv h ht
    · cases ht; exact hostWrite_queueInv h a n v
  | txAccept => cases ht; exact txAccept_queueInv h
  | txRefuse => cases ht; exact txRefuse_queueInv h
  | rxByte b => cases ht; exact rxByte_queueInv h b
  | tick => cases ht; exact tick_queueInv h

theorem step_queueInv (h : QueueInv s) (ht : step s = .next t) : QueueInv t := by
  rcases step_cases s with ⟨-, e⟩ | ⟨ev, es, -, e⟩ <;> rw [e] at ht
  · cases ht; exact h
  · exact perform_queueInv (s := { s with events := es }) h ht

end Events

/-- `STATUS.BUSY` (`10_state.md` R25, R37) is bit 0 of `STATUS`. -/
theorem statusWord_busy (s : State) : (statusWord s).getLsbD 0 = true ↔ s.phase ≠ .idle := by
  have hbit : (statusWord s).getLsbD 0 = busy s := BitVec.getLsbD_append.trans (by simp)
  rw [hbit, busy, bne_iff_ne]

/-- Settles O46: the invariant event by event, `BUSY` read off `STATUS`, and `elapsed` bounded by its width. -/
theorem stepKeepsTheQueueInvariant : Obligations.StepKeepsTheQueueInvariant := fun _ t h ht =>
  ⟨step_queueInv h ht, statusWord_busy t, Nat.le_pred_of_lt t.elapsed.isLt⟩

end Sys2Proof.Machine
end

