-- ==== Sys2Proof/Proofs/Integrity.lean ====
section
/-! The laws of the integrity functions (`40_integrity.md`): stuffing (R144), the checksum (R133), the CRC (R138, R139). -/

namespace Sys2Proof.Machine

/-! ## Stuffing (`40_integrity.md` R141 to R144) -/

section Stuffing

variable {a b x : Byte}

theorem completesPattern_iff : completesPattern a b x = true ↔ a = 0xFF ∧ b = 0xFF ∧ x = 0xFD := by
  simp only [completesPattern, Bool.and_eq_true, beq_iff_eq, and_assoc]

theorem completesPattern_eq_false_of_ne (a : Byte) (h : b ≠ 0xFF) (x : Byte) : completesPattern a b x = false :=
  Bool.eq_false_iff.mpr fun hc => h (completesPattern_iff.mp hc).2.1

theorem stuffFrom_cons_of_completes (h : completesPattern a b x = true) (xs : List Byte) :
    stuffFrom a b (x :: xs) = x :: 0xFD :: stuffFrom b x xs := if_pos h

theorem stuffFrom_cons_of_not_completes (h : completesPattern a b x = false) (xs : List Byte) :
    stuffFrom a b (x :: xs) = x :: stuffFrom b x xs := by
  simp only [stuffFrom, h, Bool.false_eq_true, if_false]

theorem unstuffFrom_cons_of_completes (h : completesPattern a b x = true) (ys : List Byte) :
    unstuffFrom a b (x :: 0xFD :: ys) = x :: unstuffFrom x 0xFD ys := by
  simp only [unstuffFrom, h, BEq.rfl, Bool.and_self, if_true]

theorem unstuffFrom_cons_of_not_completes (h : completesPattern a b x = false) (xs : List Byte) :
    unstuffFrom a b (x :: xs) = x :: unstuffFrom b x xs := by
  cases xs with
  | nil => rfl
  | cons y ys => simp only [unstuffFrom, h, Bool.false_and, Bool.false_eq_true, if_false]

/-- The byte two back matters only behind an FF. -/
theorem stuffFrom_eq_of_ne (a a' : Byte) (h : b ≠ 0xFF) (p : List Byte) : stuffFrom a b p = stuffFrom a' b p := by
  cases p with
  | nil => rfl
  | cons x xs => simp only [stuffFrom, completesPattern_eq_false_of_ne _ h]

theorem unstuffFrom_eq_of_ne (a a' : Byte) (h : b ≠ 0xFF) (w : List Byte) : unstuffFrom a b w = unstuffFrom a' b w := by
  cases w with
  | nil => rfl
  | cons x xs => simp only [unstuffFrom_cons_of_not_completes (completesPattern_eq_false_of_ne _ h x)]

/-- After a stuffed byte the two windows differ (`FF FD` in the input, `FD FD` on the wire), in the byte that does not matter. -/
theorem unstuffFrom_stuffFrom (a b : Byte) (p : List Byte) : unstuffFrom a b (stuffFrom a b p) = p := by
  induction p generalizing a b with
  | nil => rfl
  | cons x xs ih =>
    cases h : completesPattern a b x with
    | false => rw [stuffFrom_cons_of_not_completes h, unstuffFrom_cons_of_not_completes h, ih]
    | true =>
      obtain ⟨-, -, rfl⟩ := completesPattern_iff.mp h
      rw [stuffFrom_cons_of_completes h, unstuffFrom_cons_of_completes h, unstuffFrom_eq_of_ne _ b (by decide), ih]

/-- Every `FF FF FD` in `w` is followed by 0xFD (`40_integrity.md` R144). -/
def PatternsEscaped (w : List Byte) : Prop := ∀ i : Nat, [0xFF, 0xFF, 0xFD] <+: w.drop i → w[i + 3]? = some 0xFD

theorem patternsEscaped_cons {w : List Byte} :
    PatternsEscaped (a :: w) ↔ ([0xFF, 0xFF, 0xFD] <+: a :: w → w[2]? = some 0xFD) ∧ PatternsEscaped w :=
  ⟨fun h => ⟨h 0, fun i => h (i + 1)⟩, fun ⟨h0, h⟩ i => match i with
    | 0 => h0
    | i + 1 => h i⟩

theorem patternsEscaped_nil : PatternsEscaped [] := fun i h => by simp at h

theorem patternsEscaped_cons_of_ne {w : List Byte} (h : a ≠ 0xFF) : PatternsEscaped (a :: w) ↔ PatternsEscaped w :=
  patternsEscaped_cons.trans (and_iff_right fun hp => absurd (List.cons_prefix_cons.mp hp).1.symm h)

theorem patternsEscaped_pair (a b : Byte) : PatternsEscaped [a, b] := by
  simp [patternsEscaped_cons, patternsEscaped_nil, List.cons_prefix_cons]

/-- With its two bytes of context in front, a list is escaped when its first byte is and its tail is. -/
theorem patternsEscaped_context_cons {w : List Byte} :
    PatternsEscaped (a :: b :: x :: w) ↔
      (completesPattern a b x = true → w[0]? = some 0xFD) ∧ PatternsEscaped (b :: x :: w) := by
  rw [patternsEscaped_cons, completesPattern_iff]
  simp [List.cons_prefix_cons, eq_comm]

theorem patternsEscaped_stuffFrom (a b : Byte) (p : List Byte) : PatternsEscaped (a :: b :: stuffFrom a b p) := by
  induction p generalizing a b with
  | nil => exact patternsEscaped_pair a b
  | cons x xs ih =>
    cases h : completesPattern a b x with
    | false =>
      rw [stuffFrom_cons_of_not_completes h, patternsEscaped_context_cons]
      exact ⟨fun h' => absurd h' (by simp [h]), ih b x⟩
    | true =>
      obtain ⟨-, rfl, rfl⟩ := completesPattern_iff.mp h
      have htail := (patternsEscaped_cons.mp (ih 0xFF 0xFD)).2
      rw [stuffFrom_cons_of_completes h, patternsEscaped_context_cons, patternsEscaped_context_cons,
        patternsEscaped_cons_of_ne (by decide)]
      exact ⟨fun _ => rfl, fun h' => absurd h' (by decide), htail⟩

theorem stuffFrom_unstuffFrom {w : List Byte} (hw : PatternsEscaped (a :: b :: w)) :
    stuffFrom a b (unstuffFrom a b w) = w := by
  fun_induction unstuffFrom a b w with
  | case1 => rfl
  | case2 a b x =>
    have hx : completesPattern a b x = false := Bool.eq_false_iff.mpr fun hc => by
      cases (patternsEscaped_context_cons.mp hw).1 hc
    exact stuffFrom_cons_of_not_completes hx []
  | case3 a b x y ys h ih =>
    obtain ⟨hc, hy⟩ := Bool.and_eq_true_iff.mp h
    obtain ⟨-, -, rfl⟩ := completesPattern_iff.mp hc
    obtain rfl := eq_of_beq hy
    have htail := (patternsEscaped_cons.mp (patternsEscaped_cons.mp hw).2).2
    rw [stuffFrom_cons_of_completes hc, stuffFrom_eq_of_ne b 0xFD (by decide), ih htail]
  | case4 a b x y ys h ih =>
    obtain ⟨hfollow, htail⟩ := patternsEscaped_context_cons.mp hw
    have hx : completesPattern a b x = false := Bool.eq_false_iff.mpr fun hc =>
      h (by rw [hc, Option.some.inj (hfollow hc)]; rfl)
    rw [stuffFrom_cons_of_not_completes hx, ih htail]

/-- `Stuff` and `Unstuff` start with two zero bytes of context, which complete no pattern. -/
theorem patternsEscaped_zero_zero {w : List Byte} : PatternsEscaped (0 :: 0 :: w) ↔ PatternsEscaped w :=
  (patternsEscaped_cons_of_ne (by decide)).trans (patternsEscaped_cons_of_ne (by decide))

theorem patternsEscaped_stuff (p : List Byte) : PatternsEscaped (stuff p) :=
  patternsEscaped_zero_zero.mp (patternsEscaped_stuffFrom 0 0 p)

theorem stuff_unstuff_eq_iff {w : List Byte} : stuff (unstuff w) = w ↔ PatternsEscaped w :=
  ⟨fun h => h ▸ patternsEscaped_stuff (unstuff w), fun h => stuffFrom_unstuffFrom (patternsEscaped_zero_zero.mpr h)⟩

end Stuffing

/-- Settles O3: the inverse laws of the loops under any two bytes of context, read at the zero context. -/
theorem unstuffInvertsStuff : Obligations.UnstuffInvertsStuff :=
  ⟨unstuffFrom_stuffFrom 0 0, fun _ => stuff_unstuff_eq_iff⟩

/-! ## One changed byte of a frame -/

section Bytes

variable {f : List Byte} {i j k : Nat}

/-- A changed bit changes the byte. -/
theorem xor_bit_ne (x : Byte) (hk : k < 8) : x ^^^ (1#8 <<< k) ≠ x := fun h => by
  have hbit := congrArg (·.getLsbD k) h
  simp [hk] at hbit

theorem byteAt_set_same (h : i < f.length) (v : Byte) : byteAt (f.set i v) i = v := by
  simp [byteAt, h]

theorem byteAt_set_other (h : i ≠ j) (f : List Byte) (v : Byte) : byteAt (f.set i v) j = byteAt f j := by
  simp [byteAt, List.getElem?_set_ne h]

theorem byteAt_take (h : i < j) (f : List Byte) : byteAt (f.take j) i = byteAt f i := by
  simp [byteAt, List.getElem?_take_of_lt h]

theorem byteAt_eq_getElem (h : i < f.length) : byteAt f i = f[i] := List.getD_eq_getElem f 0 h

end Bytes

/-! ## The checksum (`40_integrity.md` R131 to R133) -/

section Checksum

variable {f : List Byte} {i : Nat} {v : Byte}

/-- The sum modulo 256 is the sum of bytes. -/
theorem ofNat_byteSum (l : List Byte) : BitVec.ofNat 8 (byteSum l) = l.sum := by
  induction l with
  | nil => rfl
  | cons b l ih =>
    have hcons : byteSum (b :: l) = b.toNat + byteSum l := by simp [byteSum]
    rw [hcons, BitVec.ofNat_add, ih, BitVec.ofNat_toNat, BitVec.setWidth_eq, List.sum_cons]

theorem checksum8_eq_not_sum (l : List Byte) : checksum8 l = ~~~ l.sum := by rw [checksum8, ofNat_byteSum]

theorem checksum8_perm {l m : List Byte} (h : l.Perm m) : checksum8 l = checksum8 m := by
  rw [checksum8_eq_not_sum, checksum8_eq_not_sum, h.sum_eq]

theorem eq_not_iff_add_eq (x y : Byte) : x = ~~~ y ↔ y + x = BitVec.allOnes 8 := by
  rw [← BitVec.add_not_self y, add_right_inj]

/-- The equivalent form of R132: the covered bytes and the checksum byte sum to 255. -/
theorem check1_iff (h : 2 < f.length) : check1 f = true ↔ (f.drop 2).sum = BitVec.allOnes 8 := by
  have hlast : f.drop 2 = slice 2 (f.length - 1) f ++ [byteAt f (f.length - 1)] := by
    have hsplit : f = f.take (f.length - 1) ++ [byteAt f (f.length - 1)] := by
      rw [byteAt_eq_getElem (by omega), List.take_append_getElem, Nat.sub_add_cancel (by omega), List.take_length]
    conv_lhs => rw [hsplit]
    exact List.drop_append_of_le_length (by simp; omega)
  rw [check1, beq_iff_eq, checksum8_eq_not_sum, eq_not_iff_add_eq, hlast, List.sum_append, List.sum_singleton]

/-- In a group one changed summand changes the sum. -/
theorem sum_set_ne {l : List Byte} (h : i < l.length) (hv : v ≠ l[i]) : (l.set i v).sum ≠ l.sum := by
  rw [List.sum_set', dif_pos h, Ne, add_eq_left, neg_add_eq_zero]
  exact hv.symm

/-- Changing one covered byte, or the checksum byte, in any way makes `Check1` fail. -/
theorem check1_set_eq_false (hf : check1 f = true) (h2 : 2 ≤ i) (hi : i < f.length) (hv : v ≠ byteAt f i) :
    check1 (f.set i v) = false := by
  have hlen : i - 2 < (f.drop 2).length := by simp; omega
  have hget : v ≠ (f.drop 2)[i - 2] := by
    simpa [byteAt_eq_getElem hi, Nat.add_sub_cancel' h2] using hv
  have hset : (f.set i v).drop 2 = (f.drop 2).set (i - 2) v := by rw [List.drop_set, if_neg (by omega)]
  rw [Bool.eq_false_iff, Ne, check1_iff (by simp; omega), hset, ← (check1_iff (by omega)).mp hf]
  exact sum_set_ne hlen hget

end Checksum

/-- Settles O7: the checksum is the complement of a sum in a commutative group, where 0 + 2 = 1 + 1. -/
theorem checksumLaws : Obligations.ChecksumLaws :=
  ⟨fun _ _ => checksum8_perm, fun _ _ _ hf h2 hi hk => check1_set_eq_false hf h2 hi (xor_bit_ne _ hk),
    [0, 2], [1, 1], rfl, by decide, rfl⟩

/-! ## The CRC (`40_integrity.md` R135 to R139) -/

section Crc

variable {poly : Half}

theorem crcFrom_cons (poly c : Half) (b : Byte) (l : List Byte) :
    crcFrom poly c (b :: l) = crcFrom poly (crcByte poly c b) l := rfl

theorem crcFrom_append (poly c : Half) (l m : List Byte) :
    crcFrom poly c (l ++ m) = crcFrom poly (crcFrom poly c l) m := List.foldl_append

/-- A turn shifts, and feeds the polynomial back where the bit shifted out is 1. -/
theorem crcShift_eq_xor (poly c : Half) : crcShift poly c = (c <<< 1) ^^^ (if c.msb then poly else 0) := by
  unfold crcShift
  split <;> simp

/-! The loop is linear over XOR, turn by turn. -/

theorem ite_xor (poly : Half) (p q : Bool) :
    (if p ^^ q then poly else 0) = (if p then poly else 0) ^^^ (if q then poly else 0) := by
  cases p <;> cases q <;> simp

theorem crcShift_xor (poly c d : Half) : crcShift poly (c ^^^ d) = crcShift poly c ^^^ crcShift poly d := by
  rw [crcShift_eq_xor, crcShift_eq_xor, crcShift_eq_xor, BitVec.msb_xor, ite_xor, BitVec.shiftLeft_xor_distrib]
  ac_rfl

theorem crcShift8_xor (poly c d : Half) : crcShift8 poly (c ^^^ d) = crcShift8 poly c ^^^ crcShift8 poly d := by
  simp only [crcShift8, crcShift_xor]

theorem crcByte_xor (poly c d : Half) (a b : Byte) :
    crcByte poly (c ^^^ d) (a ^^^ b) = crcByte poly c a ^^^ crcByte poly d b := by
  rw [crcByte, crcByte, crcByte, ← crcShift8_xor, BitVec.setWidth_xor, BitVec.shiftLeft_xor_distrib]
  ac_rfl

theorem crcFrom_xor (poly c d : Half) {a b : List Byte} (h : a.length = b.length) :
    crcFrom poly c a ^^^ crcFrom poly d b = crcFrom poly (c ^^^ d) (List.zipWith (· ^^^ ·) a b) := by
  induction a generalizing b c d with
  | nil => rw [List.length_eq_zero_iff.mp h.symm]; rfl
  | cons x a ih =>
    cases b with
    | nil => cases h
    | cons y b =>
      rw [crcFrom_cons, crcFrom_cons, ih _ _ (Nat.succ.inj h), ← crcByte_xor]
      rfl

/-! With bit 0 of the polynomial set no turn loses information: bit 0 of the result tells which way the turn went. -/

theorem crcShift_bit_zero (hp : poly.getLsbD 0 = true) (c : Half) : (crcShift poly c).getLsbD 0 = c.msb := by
  rw [crcShift_eq_xor, BitVec.getLsbD_xor]
  cases c.msb <;> simp [hp]

theorem eq_of_msb_eq_of_shiftLeft_one_eq {c d : Half} (hmsb : c.msb = d.msb) (hshl : c <<< 1 = d <<< 1) : c = d := by
  rw [BitVec.msb_eq_decide, BitVec.msb_eq_decide, decide_eq_decide] at hmsb
  bv_omega

theorem crcShift_injective (hp : poly.getLsbD 0 = true) : Function.Injective (crcShift poly) := fun c d h => by
  have hmsb : c.msb = d.msb := by rw [← crcShift_bit_zero hp, h, crcShift_bit_zero hp]
  rw [crcShift_eq_xor, crcShift_eq_xor, hmsb] at h
  exact eq_of_msb_eq_of_shiftLeft_one_eq hmsb ((BitVec.xor_left_inj _).mp h)

theorem crcShift8_injective (hp : poly.getLsbD 0 = true) : Function.Injective (crcShift8 poly) := by
  have h := crcShift_injective hp
  have h2 := h.comp h
  have h4 := h2.comp h2
  exact h4.comp h4

theorem crcByte_left_injective (hp : poly.getLsbD 0 = true) (b : Byte) : Function.Injective (crcByte poly · b) :=
  fun _ _ h => (BitVec.xor_left_inj _).mp (crcShift8_injective hp h)

theorem crcByte_right_injective (hp : poly.getLsbD 0 = true) (c : Half) : Function.Injective (crcByte poly c) :=
  fun a b h => by
    have hshl := (BitVec.xor_right_inj _).mp (crcShift8_injective hp h)
    bv_omega

theorem crcFrom_injective (hp : poly.getLsbD 0 = true) (l : List Byte) : Function.Injective (crcFrom poly · l) := by
  induction l with
  | nil => exact Function.injective_id
  | cons b l ih => exact ih.comp (crcByte_left_injective hp b)

/-- One changed byte changes the CRC: its own turn reaches another register, which the later ones keep apart. -/
theorem crcFrom_set_ne (hp : poly.getLsbD 0 = true) (c : Half) {l : List Byte} {i : Nat} {v : Byte} (hi : i < l.length)
    (hv : v ≠ byteAt l i) : crcFrom poly c (l.set i v) ≠ crcFrom poly c l := by
  induction l generalizing c i with
  | nil => cases hi
  | cons b l ih =>
    cases i with
    | zero => exact fun h => hv (crcByte_right_injective hp c (crcFrom_injective hp l h))
    | succ i => exact ih (crcByte poly c b) (Nat.lt_of_succ_lt_succ hi) hv

variable {c : Config} {f : List Byte} {i : Nat} {v : Byte}

theorem check2_iff : check2 c f = true ↔
    (byteAt f (f.length - 2)).toNat + 256 * (byteAt f (f.length - 1)).toNat = (crc16 c (f.take (f.length - 2))).toNat :=
  beq_iff_eq

theorem eq_of_toNat_add_mul_eq {a b a' b' : Byte} (h : a.toNat + 256 * b.toNat = a'.toNat + 256 * b'.toNat) :
    a = a' ∧ b = b' := by
  constructor <;> bv_omega

/-- Changing one byte in any way makes `Check2` fail: a covered byte changes the computed CRC alone, a CRC byte the stored one. -/
theorem check2_set_eq_false (hp : c.crcPoly.getLsbD 0 = true) (hf : check2 c f = true) (h2 : 2 ≤ f.length)
    (hi : i < f.length) (hv : v ≠ byteAt f i) : check2 c (f.set i v) = false := by
  rw [Bool.eq_false_iff]
  intro hset
  rw [check2_iff] at hf hset
  rw [List.length_set] at hset
  by_cases hcov : i < f.length - 2
  · have hlen : i < (f.take (f.length - 2)).length := by simp; omega
    rw [← byteAt_take hcov] at hv
    rw [byteAt_set_other (by omega), byteAt_set_other (by omega), List.take_set, hf] at hset
    exact crcFrom_set_ne hp _ hlen hv (BitVec.eq_of_toNat_eq hset).symm
  · rw [List.take_set_of_le (by omega), ← hf] at hset
    obtain ⟨hlo, hhi⟩ := eq_of_toNat_add_mul_eq hset
    have hend : i = f.length - 2 ∨ i = f.length - 1 := by omega
    rcases hend with rfl | rfl
    · exact hv (by rw [← hlo, byteAt_set_same hi])
    · exact hv (by rw [← hhi, byteAt_set_same hi])

end Crc

/-- Settles O8: the loop is a fold, linear over XOR in register and bytes, and tells `01 00` from `00 01`. -/
theorem crcLaws : Obligations.CrcLaws := by
  refine ⟨fun c => crcFrom_append c.crcPoly c.crcInit, fun c a b h => ?_, [0, 1], [1, 0], List.Perm.swap 1 0 [],
    by decide +kernel⟩
  rw [crc16, crc16, crcFrom_xor _ _ _ h, BitVec.xor_self]
  rfl

/-- Settles O10: a changed bit changes its byte, and every change of one byte is detected. -/
theorem crcDetectsEverySingleBit : Obligations.CrcDetectsEverySingleBit :=
  fun _ _ _ _ hp hf h2 hi hk => check2_set_eq_false hp hf h2 hi (xor_bit_ne _ hk)

end Sys2Proof.Machine
end

/-! The frames of `41_encode.md`: the fields a framer writes, read back by the accessors of the decoder; the integrity of a
frame (R152, R155) and its round trip through the scanner (R160). -/

namespace Sys2Proof.Machine

/-! ## Bytes of a number, bytes of a list (`00_scope.md` R9, R10) -/

section Bytes

theorem toNat_lo8 {v : Nat} (h : v < 256) : (lo8 v).toNat = v := by
  rw [lo8, BitVec.toNat_ofNat, Nat.mod_eq_of_lt h]

/-- A little-endian pair of bytes holds every number below 2^16. -/
theorem toNat_lo8_add_toNat_hi8 {v : Nat} (h : v < 65536) : (lo8 v).toNat + 256 * (hi8 v).toNat = v := by
  rw [lo8, hi8, BitVec.toNat_ofNat, BitVec.toNat_ofNat]
  omega

theorem slice_append_append (a b t : List Byte) : slice a.length (a ++ b).length (a ++ b ++ t) = b := by
  rw [slice, List.take_left, List.drop_left]

theorem byteAt_append_right (a t : List Byte) (i : Nat) : byteAt (a ++ t) (a.length + i) = byteAt t i := by
  rw [byteAt, List.getD_append_right _ _ _ _ (Nat.le_add_right _ _), Nat.add_sub_cancel_left, byteAt]

end Bytes

theorem reservedId_eq_false {id : Byte} (h3 : id ≠ 253) (h5 : id ≠ 255) : reservedId id = false :=
  Bool.or_eq_false_iff.mpr ⟨beq_false_of_ne h3, beq_false_of_ne h5⟩

/-- A list in which every `FF FF FD` is followed by `FD` holds no P2 marker (`40_integrity.md` R142). -/
theorem PatternsEscaped.not_headerMark_infix {w : List Byte} (hw : PatternsEscaped w) : ¬ headerMark .p2 <:+: w := by
  rintro ⟨a, t, rfl⟩
  have hfollow := hw a.length ⟨0x00 :: t, by simp [headerMark]⟩
  simp [headerMark] at hfollow

/-! ## The trailer passes the integrity test -/

theorem check1_append_checksum8 (body : List Byte) : check1 ([0xFF, 0xFF] ++ body ++ [checksum8 body]) = true := by
  have hend : ([0xFF, 0xFF] ++ body ++ [checksum8 body]).length - 1 = ([0xFF, 0xFF] ++ body).length + 0 := by
    rw [List.length_append]; rfl
  rw [check1, beq_iff_eq, hend, byteAt_append_right]
  exact congrArg checksum8 (slice_append_append [0xFF, 0xFF] body _).symm

theorem check2_append_crc16 (c : Config) (l : List Byte) :
    check2 c (l ++ [lo8 (crc16 c l).toNat, hi8 (crc16 c l).toNat]) = true := by
  rw [check2_iff, List.length_append]
  show (byteAt _ (l.length + 0)).toNat + 256 * (byteAt _ (l.length + 1)).toNat = (crc16 c (List.take l.length _)).toNat
  rw [byteAt_append_right, byteAt_append_right, List.take_left]
  exact toNat_lo8_add_toNat_hi8 (crc16 c l).isLt

/-! ## What a frame holds -/

/-- The parameters a framer admits: the length field can count them (`41_encode.md` R151, R154). -/
def Admitted : Proto → List Byte → Prop
  | .p1, p => p.length ≤ 253
  | .p2, p => (stuff p).length ≤ 65532

/-- The parameters as they stand in a frame: stuffed in P2 only. -/
def wireParams : Proto → List Byte → List Byte
  | .p1, p => p
  | .p2, p => stuff p

/-- The receive limit of a valid configuration is not beyond what the length field can count. -/
theorem admitted_of_frameLength_le_rxMax {c : Config} {proto : Proto} {p : List Byte} (hc : configValid c)
    (h : frameLength proto p ≤ rxMax c proto) : Admitted proto p := by
  obtain ⟨-, ⟨-, h1⟩, -, ⟨-, h2⟩, -⟩ := hc
  cases proto with
  | p1 => exact Nat.le_of_add_le_add_right (h.trans h1)
  | p2 => exact Nat.le_of_add_le_add_right (h.trans h2)

section Frames

variable (c : Config) (proto : Proto) (id ie : Byte) (p : List Byte)

theorem deliveredParams_wireParams : deliveredParams proto (wireParams proto p) = p := by
  cases proto with
  | p1 => rfl
  | p2 => exact unstuffFrom_stuffFrom 0 0 p

theorem headerMark_prefix_frame : headerMark proto <+: frame c proto id ie p := by
  cases proto <;> exact ⟨_, rfl⟩

theorem byteAt_frame_idxId : byteAt (frame c proto id ie p) (idxId proto) = id := by
  cases proto <;> rfl

theorem byteAt_frame_idxSlot : byteAt (frame c proto id ie p) (idxSlot proto) = ie := by
  cases proto <;> rfl

/-- The least legal `LEN` is that of a frame without parameters. -/
theorem lenMin_add_lenOverhead_le_frameLength : lenMin proto + lenOverhead proto ≤ frameLength proto p := by
  cases proto <;> exact Nat.le_add_left _ _

/-- The length field of a frame counts its bytes, less the overhead (`30_encoding.md` R94). -/
theorem lenOf_frame_add_lenOverhead {proto : Proto} {p : List Byte} (h : Admitted proto p) :
    lenOf proto (frame c proto id ie p) + lenOverhead proto = frameLength proto p := by
  cases proto with
  | p1 => exact congrArg (· + 4) (toNat_lo8 (Nat.lt_succ_of_le (Nat.add_le_add_right h 2)))
  | p2 => exact congrArg (· + 7) (toNat_lo8_add_toNat_hi8 (Nat.lt_succ_of_le (Nat.add_le_add_right h 3)))

theorem integrityOk_frame : integrityOk c proto (frame c proto id ie p) = true := by
  cases proto with
  | p1 => exact check1_append_checksum8 _
  | p2 => exact check2_append_crc16 c _

/-- A frame is its wire parameters between the bytes up to the slot byte and the trailer. -/
theorem exists_frame_eq_append : ∃ head trailer, head.length = idxParam proto ∧ trailer.length = trailerWidth proto ∧
    frame c proto id ie p = head ++ wireParams proto p ++ trailer := by
  cases proto with
  | p1 => exact ⟨[0xFF, 0xFF, id, lo8 (p.length + 2), ie], _, rfl, rfl, rfl⟩
  | p2 => exact ⟨_, _, rfl, rfl, rfl⟩

theorem slice_frame_params :
    slice (idxParam proto) (frameLength proto p - trailerWidth proto) (frame c proto id ie p) = wireParams proto p := by
  obtain ⟨head, trailer, hhead, htrailer, hframe⟩ := exists_frame_eq_append c proto id ie p
  rw [← frame_length c proto id ie p, hframe, ← hhead, ← htrailer, List.length_append, Nat.add_sub_cancel]
  exact slice_append_append head _ trailer

end Frames

/-! ## The round trip (`41_encode.md` R160) -/

/-- A buffer that is exactly one sound candidate within the limit is delivered with nothing left over. -/
theorem scanFrom_of_length_eq {c : Config} {proto : Proto} {f : List Byte}
    (hid : reservedId (byteAt f (idxId proto)) = false) (hlen : lenOf proto f + lenOverhead proto = f.length)
    (hmin : lenMin proto + lenOverhead proto ≤ f.length) (hmax : f.length ≤ rxMax c proto)
    (hok : integrityOk c proto f = true) :
    scanFrom c proto f = .frame (byteAt f (idxId proto)) (byteAt f (idxSlot proto))
      (deliveredParams proto (slice (idxParam proto) (f.length - trailerWidth proto) f)) [] := by
  have hend := lenEnd_le_lenMin_add_lenOverhead proto
  have hfield : ¬ (lenOf proto f < lenMin proto ∨ f.length > rxMax c proto) := by omega
  simp only [scanFrom, hlen, hid, hok, hfield, List.take_length, List.drop_length, Nat.not_lt.mpr (hend.trans hmin),
    lt_irrefl, Bool.false_eq_true, Bool.true_eq_false, if_false]

/-- R160 in either protocol: past the marker, every test of the scanner passes and every accessor reads back what was framed. -/
theorem scan_frame {c : Config} {proto : Proto} {id : Byte} {p : List Byte} (hc : configValid c)
    (hid : reservedId id = false) (hmax : frameLength proto p ≤ rxMax c proto) (ie : Byte) :
    scan c proto (frame c proto id ie p) = .frame id ie p [] := by
  have hframe := scanFrom_of_length_eq (c := c) (proto := proto) (f := frame c proto id ie p)
  simp only [frame_length, byteAt_frame_idxId, byteAt_frame_idxSlot, slice_frame_params, deliveredParams_wireParams] at hframe
  rw [scan_of_mark (headerMark_prefix_frame c proto id ie p)]
  exact hframe hid (lenOf_frame_add_lenOverhead c id ie (admitted_of_frameLength_le_rxMax hc hmax))
    (lenMin_add_lenOverhead_le_frameLength proto p) hmax (integrityOk_frame c proto id ie p)

/-- Settles O1: the round trip of a frame, at P1 and at P2. -/
theorem scanRecoversEveryFrame : Obligations.ScanRecoversEveryFrame := fun _ _ ie _ hc h3 h5 =>
  ⟨fun hmax => scan_frame (proto := .p1) hc (reservedId_eq_false h3 h5) hmax ie,
    fun hmax => scan_frame (proto := .p2) hc (reservedId_eq_false h3 h5) hmax ie⟩

/-! ## Consistent frames (`41_encode.md` R152, R155) -/

/-- Settles O5: the facts about frames at P1; the configuration, on which a P1 frame does not depend, is any. -/
theorem frameP1IsConsistent : Obligations.FrameP1IsConsistent := by
  intro id ie p hp
  have hlen : (byteAt (frameP1 id ie p) 3).toNat + 4 = p.length + 6 :=
    lenOf_frame_add_lenOverhead (proto := .p1) Config.default id ie hp
  have htotal : (frameP1 id ie p).length = p.length + 6 := frame_length Config.default .p1 id ie p
  exact ⟨integrityOk_frame Config.default .p1 id ie p, headerMark_prefix_frame Config.default .p1 id ie p, by omega, by omega⟩

/-- Settles O6: the facts about frames at P2; bytes 8 to `|f| - 3` are the stuffed parameters, which hold no marker. -/
theorem frameP2IsConsistent : Obligations.FrameP2IsConsistent := by
  intro c id ie p hp
  have hlen : (byteAt (frameP2 c id ie p) 5).toNat + 256 * (byteAt (frameP2 c id ie p) 6).toNat + 7 = (stuff p).length + 10 :=
    lenOf_frame_add_lenOverhead (proto := .p2) c id ie hp
  have htotal : (frameP2 c id ie p).length = (stuff p).length + 10 := frame_length c .p2 id ie p
  have hparams : slice 8 ((frameP2 c id ie p).length - 2) (frameP2 c id ie p) = stuff p :=
    htotal ▸ slice_frame_params c .p2 id ie p
  refine ⟨integrityOk_frame c .p2 id ie p, headerMark_prefix_frame c .p2 id ie p, ?_, by omega⟩
  rw [hparams]
  exact (patternsEscaped_stuff p).not_headerMark_infix

end Sys2Proof.Machine

/-! The scanner's remainders (`42_decode.md` R178, R179): what it keeps of a buffer, and one byte after a waiting buffer. -/

namespace Sys2Proof.Machine

section Scanner

variable {c : Config} {p : Proto} {buf keep : List Byte}

/-- The scanner drops bytes only before the first marker. -/
theorem scan_keep_suffix (h : scan c p buf = .needMore keep) : keep <:+ buf := by
  rcases scan_cases c p buf with ⟨-, -, e⟩ | ⟨-, -, e⟩ | ⟨i, -, e⟩ <;> rw [e] at h
  · exact Verdict.needMore.inj h ▸ List.suffix_rfl
  · cases h
  · exact (scanFrom_needMore h).1 ▸ List.drop_suffix i buf

theorem headerMark_prefix_keep (h : scan c p buf = .needMore keep) (hm : findHeader p buf ≠ none) :
    headerMark p <+: keep := by
  rcases scan_needMore h with ⟨hn, -⟩ | ⟨hpre, -⟩
  · exact absurd hn hm
  · exact hpre

end Scanner

/-- Settles O12: R178; `keep` is the whole buffer or starts at its first marker, and the room for one more byte is the strict
bound on its length. -/
theorem scanKeepsBufferWithinLimit : Obligations.ScanKeepsBufferWithinLimit := by
  intro c proto buf keep hc h
  have hlt := scan_keep_length_lt hc h
  refine ⟨hlt, scan_keep_suffix h, scan_keep h, headerMark_prefix_keep h, fun b => ?_⟩
  rw [List.length_append, List.length_singleton]
  exact hlt

/-- Settles O13: R179, by the verdict on the buffer with the byte; a frame it completes ends with that byte. -/
theorem scanOneByteAtATime : Obligations.ScanOneByteAtATime := by
  intro c proto k b _ hk
  cases h : scan c proto (k ++ [b]) with
  | needMore k' => exact .inl ⟨k', rfl, scan_keep_suffix h⟩
  | corrupt => exact .inr (.inl rfl)
  | frame id ie params rest =>
    obtain rfl := scan_append_frame_rest hk h
    exact .inr (.inr ⟨id, ie, params, rfl⟩)

end Sys2Proof.Machine

/-! What an instruction does, by its two kinds, and the busy port (`43_sequencer.md` R204). -/

namespace Sys2Proof.Machine

/-- The request of a wire instruction determines it. -/
theorem eq_ofRequest_of_request {i : Instr} {r : Request} (h : i.request? = some r) :
    i = Instr.ofRequest r.proto r.instr r.id r.params := by
  cases i <;> cases h <;> rfl

/-- An instruction is a START command, run as the write of its value to `CMD`, or a request, which the START step carries. -/
theorem exec_cases (i : Instr) (s : State) :
    (∃ v, startValue i = some v ∧ exec i s = startEvent v s) ∨
    (∃ r, i.request? = some r ∧ exec i s = .next (carry r.proto r.instr r.id r.params s)) := by
  cases h : i.request? with
  | some r =>
    have hexec := exec_ofRequest r.proto r.instr r.id r.params s
    rw [← eq_ofRequest_of_request h, carried_eq] at hexec
    exact .inr ⟨r, rfl, hexec⟩
  | none =>
    cases i with
    | startTx => exact .inl ⟨1, rfl, rfl⟩
    | startRx => exact .inl ⟨2, rfl, rfl⟩
    | startTxrx => exact .inl ⟨3, rfl, rfl⟩
    | startCollect => exact .inl ⟨7, rfl, rfl⟩
    | _ => cases h

/-- A write of four bytes at offset 0x08 is the START event. -/
theorem step_of_cmdWrite {s : State} {v : Word} {es : List Event} (h : s.events = .hostWrite 0x08 4 v :: es) :
    step s = startEvent v { s with events := es } := by
  rcases step_cases s with ⟨hnil, -⟩ | ⟨e, es', hcons, hstep⟩
  · cases h.symm.trans hnil
  · cases h.symm.trans hcons
    exact hstep

section Busy

variable {s : State}

theorem start_of_busy (hp : s.phase ≠ .idle) (v : Word) (p : Proto) (id b : Byte) (ps : List Byte) :
    start v p id b ps s = portBusy s :=
  if_pos hp

theorem startEvent_of_busy (hp : s.phase ≠ .idle) (v : Word) : startEvent v s = .next (portBusy s) := by
  rcases startEvent_cases v s with ⟨-, e⟩ | ⟨hidle, -⟩ | ⟨hidle, -⟩
  · exact e
  · exact absurd hidle hp
  · exact absurd hidle hp

theorem exec_of_busy (hp : s.phase ≠ .idle) (i : Instr) : exec i s = .next (portBusy s) := by
  rcases exec_cases i s with ⟨v, -, e⟩ | ⟨r, -, e⟩ <;> rw [e]
  · exact startEvent_of_busy hp v
  · rw [carry, start_of_busy hp]

end Busy

/-- Settles O16: every START, as an instruction or as a write to `CMD`, finds the port busy. -/
theorem startWhileBusyIsPortBusy : Obligations.StartWhileBusyIsPortBusy :=
  ⟨fun i _ hp => exec_of_busy hp i,
    fun s v es hevents hp =>
      (step_of_cmdWrite hevents).trans (startEvent_of_busy (s := { s with events := es }) hp v)⟩

end Sys2Proof.Machine

/-! Which check decides a START (`60_exceptions.md` R315): the checks of `43_sequencer.md` R205 and `41_encode.md` R158 read
as conditions on the registers, and what the START step does under each. -/

namespace Sys2Proof.Machine

/-! ## The value written to `CMD` (`10_state.md` R26, `43_sequencer.md` R206) -/

section Command

variable {v : Word}

theorem legalCommand_iff : legalCommand v = true ↔ v = 1 ∨ v = 2 ∨ v = 3 ∨ v = 7 := by
  constructor
  · intro h
    have hhigh : v >>> 3 = 0 := by
      rw [legalCommand, Bool.and_eq_true] at h
      exact beq_iff_eq.mp h.1
    have hlt : v.toNat < 8 := by
      have hn := congrArg BitVec.toNat hhigh
      rw [BitVec.toNat_ushiftRight, Nat.shiftRight_eq_div_pow] at hn
      exact Nat.lt_of_div_eq_zero (by decide) hn
    have hsmall : ∀ n < 8, legalCommand (BitVec.ofNat 32 n) = true →
        BitVec.ofNat 32 n = 1 ∨ BitVec.ofNat 32 n = 2 ∨ BitVec.ofNat 32 n = 3 ∨ BitVec.ofNat 32 n = 7 := by decide
    have hofNat : BitVec.ofNat 32 v.toNat = v := (BitVec.ofNat_toNat 32 v).trans (BitVec.setWidth_eq v)
    exact hofNat ▸ hsmall v.toNat hlt (hofNat.symm ▸ h)
  · rintro (rfl | rfl | rfl | rfl) <;> decide

theorem cmdTx_eq (hv : v = 1 ∨ v = 2 ∨ v = 3 ∨ v = 7) : cmdTx v = decide (v ≠ 2) := by
  rcases hv with rfl | rfl | rfl | rfl <;> decide

theorem cmdCollect_eq (hv : v = 1 ∨ v = 2 ∨ v = 3 ∨ v = 7) : cmdCollect v = decide (v = 7) := by
  rcases hv with rfl | rfl | rfl | rfl <;> decide

end Command

/-! ## The target checks (`43_sequencer.md` R207) -/

theorem reservedId_iff {id : Byte} : reservedId id = true ↔ id = 253 ∨ id = 255 := by
  rw [reservedId, Bool.or_eq_true, beq_iff_eq, beq_iff_eq]

theorem expectsUnique_iff {i : Option WireInstr} : expectsUnique i = true ↔ i = some .ping ∨ i = some .read := by
  rcases i with - | i
  · decide
  · cases i <;> decide

/-- R207 (a) to (d), for a command that is legal. -/
theorem targetRefused_iff {v : Word} (hv : v = 1 ∨ v = 2 ∨ v = 3 ∨ v = 7) {p : Proto} {id : Byte}
    {i : Option WireInstr} :
    targetRefused v p id i = true ↔
      (id = 253 ∨ id = 255) ∨ (v = 7 ∧ ¬ (p = .p2 ∧ id = 254 ∧ i = some .ping)) ∨
        ((v = 1 ∨ v = 3) ∧ id = 254 ∧ (i = some .ping ∨ i = some .read)) ∨ (v = 2 ∧ id = 254) := by
  have hfull : (v ≠ 7 ∧ v ≠ 2) ↔ v = 1 ∨ v = 3 := by rcases hv with rfl | rfl | rfl | rfl <;> decide
  rw [← reservedId_iff, ← expectsUnique_iff, ← hfull]
  simp only [targetRefused, cmdTx_eq hv, cmdCollect_eq hv, broadcastId, Bool.or_eq_true, Bool.and_eq_true,
    Bool.not_eq_true', ← Bool.not_eq_true, decide_eq_true_eq, beq_iff_eq, or_assoc, and_assoc, not_not]

/-! ## The checks of the encoder (`41_encode.md` R158, `30_encoding.md` R105) -/

theorem avail_eq_false_iff {p : Proto} {i : WireInstr} :
    avail p i = false ↔
      i = .statusResponse ∨ (p = .p1 ∧ (i = .reboot ∨ i = .syncRead ∨ i = .bulkWrite)) := by
  cases p <;> cases i <;> decide

/-- `EncodeReq` for an id that is not reserved, with the table of R105 written out. -/
theorem encodeReq_of_not_reserved (c : Config) (p : Proto) {id : Byte} (hid : reservedId id = false) (b : Byte)
    (ps : List Byte) :
    encodeReq c p id b ps =
      if instrOf c.opc b = none then .notAvailable
      else if instrOf c.opc b = some .statusResponse ∨
          (p = .p1 ∧ (instrOf c.opc b = some .reboot ∨ instrOf c.opc b = some .syncRead ∨
            instrOf c.opc b = some .bulkWrite)) then .notAvailable
      else if frameLength p ps > txMax c p then .txError
      else .frame (frame c p id b ps) := by
  cases hi : instrOf c.opc b with
  | none => simp [encodeReq, hid, hi]
  | some i => simp [encodeReq, hid, hi, avail_eq_false_iff]

section Outcomes

variable {v : Word} {p : Proto} {id b : Byte} {ps : List Byte} {s : State}

theorem transmit_of_notAvailable (h : encodeReq s.cfg p id b ps = .notAvailable) :
    transmit v p id b ps s = complete .notAvailable (emit .flush s) := by
  simp only [transmit, h]

theorem transmit_of_txError (h : encodeReq s.cfg p id b ps = .txError) :
    transmit v p id b ps s = complete .txError (emit .flush s) := by
  simp only [transmit, h]

theorem transmit_of_frame {f : List Byte} (h : encodeReq s.cfg p id b ps = .frame f) :
    transmit v p id b ps s =
      { emit .flush s with txq := f, curRx := receiveFollows v id (instrOf s.cfg.opc b), phase := .tx } := by
  simp only [transmit, h]

/-! ## The START step of an idle MPF (`43_sequencer.md` R205) -/

theorem start_of_refused (hp : s.phase = .idle)
    (h : legalCommand v = false ∨ targetRefused v p id (instrOf s.cfg.opc b) = true) :
    start v p id b ps s = complete .notAvailable (clearForStart s) := by
  rcases h with h | h <;> simp [start, hp, h]

theorem start_of_transmit (hp : s.phase = .idle) (hl : legalCommand v = true)
    (ht : targetRefused v p id (instrOf s.cfg.opc b) = false) (hx : cmdTx v = true) :
    start v p id b ps s = transmit v p id b ps (latch v p id (clearForStart s)) := by
  simp [start, hp, hl, ht, hx]

theorem start_of_harvest (hp : s.phase = .idle) (hl : legalCommand v = true)
    (ht : targetRefused v p id (instrOf s.cfg.opc b) = false) (hx : cmdTx v = false) :
    start v p id b ps s = harvest (latch v p id (clearForStart s)) := by
  simp [start, hp, hl, ht, hx]

end Outcomes

/-! ## The START event of an idle MPF -/

/-- The state START `v` runs in: `s` but for the model's own fields. -/
def carrying (v : Word) (n : Nat) (es : List Event) (s : State) : State := { s with cmd := v, free := n, events := es }

/-- The same when the request has been latched. -/
def afterLatch (v : Word) (n : Nat) (es : List Event) (s : State) : State :=
  latch v s.proto s.reqId (clearForStart (carrying v n es s))

/-- Whether or not it reads parameters, a write to `CMD` is one START step on the registers. -/
theorem step_start_of_idle {s : State} {v : Word} {es : List Event} (hevents : s.events = .hostWrite 0x08 4 v :: es)
    (hp : s.phase = .idle) :
    ∃ ps n, ((v = 1 ∨ v = 3 ∨ v = 7) → ps = requestParams s) ∧
      step s = .next (start v s.proto s.reqId s.reqInstr ps (carrying v n es s)) := by
  rw [step_of_cmdWrite hevents]
  rcases startEvent_cases v { s with events := es } with ⟨hbusy, -⟩ | ⟨-, -, e⟩ | ⟨-, h1, h3, h7, e⟩
  · exact absurd hp hbusy
  · exact ⟨requestParams s, s.free + s.reqPlen.toNat, fun _ => rfl, e⟩
  · exact ⟨[], s.free, fun hv => absurd hv (not_or.mpr ⟨h1, not_or.mpr ⟨h3, h7⟩⟩), e⟩

/-! ## The three kinds of outcome (`60_exceptions.md` R315) -/

theorem toNat_satTW (n : Nat) : (satTW n).toNat = min n (2 ^ 32 - 1) := by
  rw [satTW, BitVec.toNat_ofNat]
  exact Nat.mod_eq_of_lt (by omega)

/-- `t` holds the request START `v` latches from the registers of `s` (`43_sequencer.md` R205, R221). -/
def LatchedFrom (s : State) (v : Word) (t : State) : Prop :=
  t.curProto = s.proto ∧ t.curId = s.reqId ∧ t.curCollect = decide (v = 7) ∧
    t.budget.toNat = min (s.tLat.toNat + s.tByte.toNat * s.reqRxlen.toNat + s.tSlack.toNat) (2 ^ 32 - 1)

/-- Causes 2 to 6: nothing latched, nothing flushed. -/
def RefusedFrom (s t : State) : Prop :=
  (t.curProto = s.curProto ∧ t.curId = s.curId ∧ t.curCollect = s.curCollect ∧ t.budget = s.budget) ∧
    t.result = .notAvailable ∧ t.done = true ∧ t.phase = .idle ∧ t.out = s.out

/-- Causes 7 to 9: the request failed with `code` after the latch and one flush. -/
def FailedFrom (s : State) (v : Word) (code : CommResult) (t : State) : Prop :=
  LatchedFrom s v t ∧ t.result = code ∧ t.done = true ∧ t.phase = .idle ∧ t.out = s.out ++ [.flush]

/-- No cause: the request is in flight. -/
def AcceptedFrom (s : State) (v : Word) (phase : Phase) (o : List Output) (t : State) : Prop :=
  LatchedFrom s v t ∧ t.result = s.result ∧ t.done = false ∧ t.phase = phase ∧ t.out = o

section Start

variable {v : Word} {n : Nat} {es : List Event} {ps : List Byte} {s : State}

theorem latchedFrom_afterLatch (hv : v = 1 ∨ v = 2 ∨ v = 3 ∨ v = 7) : LatchedFrom s v (afterLatch v n es s) :=
  ⟨rfl, rfl, cmdCollect_eq hv, toNat_satTW _⟩

theorem start_refusedFrom (hp : s.phase = .idle)
    (h : legalCommand v = false ∨ targetRefused v s.proto s.reqId (instrOf s.cfg.opc s.reqInstr) = true) :
    RefusedFrom s (start v s.proto s.reqId s.reqInstr ps (carrying v n es s)) := by
  rw [start_of_refused (s := carrying v n es s) hp h]
  exact ⟨⟨rfl, rfl, rfl, rfl⟩, rfl, rfl, rfl, rfl⟩

theorem start_receive_acceptedFrom (hp : s.phase = .idle)
    (ht : targetRefused 2 s.proto s.reqId (instrOf s.cfg.opc s.reqInstr) = false) :
    AcceptedFrom s 2 .rx s.out (start 2 s.proto s.reqId s.reqInstr ps (carrying 2 n es s)) := by
  rw [start_of_harvest (s := carrying 2 n es s) hp rfl ht rfl]
  exact ⟨latchedFrom_afterLatch (.inr (.inl rfl)), rfl, rfl, rfl, rfl⟩

/-! A START with `TX` that passes the checks of R205 ends as `EncodeReq` answers. -/

section Transmit

variable (hp : s.phase = .idle) (hv : v = 1 ∨ v = 2 ∨ v = 3 ∨ v = 7) (h2 : v ≠ 2)
  (ht : targetRefused v s.proto s.reqId (instrOf s.cfg.opc s.reqInstr) = false)

include hp hv h2 ht

theorem start_eq_transmit :
    start v s.proto s.reqId s.reqInstr ps (carrying v n es s) =
      transmit v s.proto s.reqId s.reqInstr ps (afterLatch v n es s) :=
  start_of_transmit (s := carrying v n es s) hp (legalCommand_iff.mpr hv) ht (by rw [cmdTx_eq hv, decide_eq_true h2])

theorem start_notAvailable_failedFrom (henc : encodeReq s.cfg s.proto s.reqId s.reqInstr ps = .notAvailable) :
    FailedFrom s v .notAvailable (start v s.proto s.reqId s.reqInstr ps (carrying v n es s)) := by
  rw [start_eq_transmit hp hv h2 ht, transmit_of_notAvailable (s := afterLatch v n es s) henc]
  exact ⟨latchedFrom_afterLatch hv, rfl, rfl, rfl, rfl⟩

theorem start_txError_failedFrom (henc : encodeReq s.cfg s.proto s.reqId s.reqInstr ps = .txError) :
    FailedFrom s v .txError (start v s.proto s.reqId s.reqInstr ps (carrying v n es s)) := by
  rw [start_eq_transmit hp hv h2 ht, transmit_of_txError (s := afterLatch v n es s) henc]
  exact ⟨latchedFrom_afterLatch hv, rfl, rfl, rfl, rfl⟩

theorem start_frame_acceptedFrom {f : List Byte} (henc : encodeReq s.cfg s.proto s.reqId s.reqInstr ps = .frame f) :
    AcceptedFrom s v .tx (s.out ++ [.flush]) (start v s.proto s.reqId s.reqInstr ps (carrying v n es s)) := by
  rw [start_eq_transmit hp hv h2 ht, transmit_of_frame (s := afterLatch v n es s) henc]
  exact ⟨latchedFrom_afterLatch hv, rfl, rfl, rfl, rfl⟩

end Transmit

end Start

/-- Settles O17: R315 cause by cause; causes 2 to 6 are the checks before the latch, 7 to 9 the answer of `EncodeReq` after it. -/
theorem startOutcomeFollowsCheckOrder : Obligations.StartOutcomeFollowsCheckOrder := by
  intro s v es hevents
  by_cases hp : s.phase = .idle
  case neg =>
    refine ⟨portBusy { s with events := es }, ?_, by simp only [if_pos hp]; rfl⟩
    exact (step_of_cmdWrite hevents).trans (startEvent_of_busy (s := { s with events := es }) hp v)
  obtain ⟨ps, n, hps, e⟩ := step_start_of_idle hevents hp
  refine ⟨_, e, ?_⟩
  intro i kept latched refused failed accepted
  rw [if_neg (not_not_intro hp)]
  split <;> rename_i hv
  · exact start_refusedFrom hp (.inl (by rwa [← Bool.not_eq_true, legalCommand_iff]))
  rw [not_not] at hv
  have refused_of (h) : refused := start_refusedFrom hp (.inr ((targetRefused_iff hv).mpr h))
  split <;> rename_i hid
  · exact refused_of (.inl hid)
  split <;> rename_i hcollect
  · exact refused_of (.inr (.inl hcollect))
  split <;> rename_i hunique
  · exact refused_of (.inr (.inr (.inl hunique)))
  split <;> rename_i hharvest
  · exact refused_of (.inr (.inr (.inr hharvest)))
  have ht : targetRefused v s.proto s.reqId i = false := by
    rw [← Bool.not_eq_true, targetRefused_iff hv]
    simp only [hid, hcollect, hunique, hharvest, or_self, not_false_eq_true]
  split <;> rename_i h2
  · subst h2
    exact start_receive_acceptedFrom hp ht
  obtain rfl := hps (by simpa only [h2, false_or] using hv)
  obtain ⟨h253, h255⟩ := not_or.mp hid
  have henc := encodeReq_of_not_reserved s.cfg s.proto (reservedId_eq_false h253 h255) s.reqInstr (requestParams s)
  split <;> rename_i hnone
  · exact start_notAvailable_failedFrom hp hv h2 ht (henc.trans (if_pos hnone))
  rw [if_neg hnone] at henc
  split <;> rename_i hunavail
  · exact start_notAvailable_failedFrom hp hv h2 ht (henc.trans (if_pos hunavail))
  rw [if_neg hunavail] at henc
  split <;> rename_i hlong
  · exact start_txError_failedFrom hp hv h2 ht (henc.trans (if_pos hlong))
  · exact start_frame_acceptedFrom hp hv h2 ht (henc.trans (if_neg hlong))

end Sys2Proof.Machine

/-! The codec (`30_encoding.md`, `40_integrity.md`, `41_encode.md`): how far stuffing lengthens a list (R142), the table form of
the CRC (R136), one changed bit of a frame (`42_decode.md` R183), and decoding what was encoded. -/

namespace Sys2Proof.Machine

/-! ## How far stuffing lengthens a list (`40_integrity.md` R142) -/

section StuffLength

/-- How many of the first `n` places of `w` hold `FF FF FD`. -/
def patternCount (w : List Byte) (n : Nat) : Nat :=
  (List.range n).countP (fun i => decide (w[i]? = some 0xFF ∧ w[i + 1]? = some 0xFF ∧ w[i + 2]? = some 0xFD))

/-- How much of `FF FF FD` the two bytes `a`, `b` may have begun. -/
def patternProgress (a b : Byte) : Nat := if b = 0xFF then if a = 0xFF then 2 else 1 else 0

variable {a b x : Byte}

theorem patternCount_context_cons (a b x : Byte) (xs : List Byte) :
    patternCount (a :: b :: x :: xs) (xs.length + 1) =
      (if completesPattern a b x then 1 else 0) + patternCount (b :: x :: xs) xs.length := by
  have hhead : decide (a = 0xFF ∧ b = 0xFF ∧ x = 0xFD) = completesPattern a b x := by
    rw [Bool.eq_iff_iff, decide_eq_true_iff, completesPattern_iff]
  rw [patternCount, List.range_succ_eq_map, List.countP_cons, List.countP_map, ← hhead, Nat.add_comm]
  simp [patternCount, Function.comp_def]

/-- One byte is added at every place that completes the pattern, the context counted in. -/
theorem stuffFrom_length (a b : Byte) (p : List Byte) :
    (stuffFrom a b p).length = p.length + patternCount (a :: b :: p) p.length := by
  induction p generalizing a b with
  | nil => rfl
  | cons x xs ih =>
    rw [List.length_cons, patternCount_context_cons]
    cases h : completesPattern a b x with
    | false => rw [stuffFrom_cons_of_not_completes h, List.length_cons, ih]; simp; omega
    | true => rw [stuffFrom_cons_of_completes h, List.length_cons, List.length_cons, ih]; simp; omega

/-- Occurrences do not overlap: each takes three bytes, of which the context may hold two of the first. -/
theorem three_mul_patternCount_le (a b : Byte) (p : List Byte) :
    3 * patternCount (a :: b :: p) p.length ≤ p.length + patternProgress a b := by
  induction p generalizing a b with
  | nil => exact Nat.zero_le _
  | cons x xs ih =>
    have htail := ih b x
    rw [List.length_cons, patternCount_context_cons]
    cases h : completesPattern a b x with
    | true =>
      obtain ⟨rfl, rfl, rfl⟩ := completesPattern_iff.mp h
      simp [patternProgress] at htail ⊢
      omega
    | false =>
      have hstep : patternProgress b x ≤ patternProgress a b + 1 := by
        unfold patternProgress
        split_ifs <;> omega
      simp only [Bool.false_eq_true, if_false]
      omega

/-- With the zero context of `Stuff` the places are those of R142, where two bytes stand before. -/
theorem patternCount_zero_zero (p : List Byte) :
    patternCount (0 :: 0 :: p) p.length = (List.range p.length).countP
      (fun i => decide (2 ≤ i ∧ p[i - 2]? = some 0xFF ∧ p[i - 1]? = some 0xFF ∧ p[i]? = some 0xFD)) := by
  refine List.countP_congr fun i _ => ?_
  match i with
  | 0 => simp
  | 1 => simp
  | i + 2 => simp

theorem stuff_length (p : List Byte) : (stuff p).length = p.length + patternCount (0 :: 0 :: p) p.length :=
  stuffFrom_length 0 0 p

theorem patternCount_zero_zero_le (p : List Byte) : patternCount (0 :: 0 :: p) p.length ≤ p.length / 3 := by
  have h : 3 * patternCount (0 :: 0 :: p) p.length ≤ p.length := three_mul_patternCount_le 0 0 p
  omega

end StuffLength

/-- Settles O4: the length by the count of completing places, the absence of a marker by the escaping of every pattern. -/
theorem stuffedParametersHoldNoHeader : Obligations.StuffedParametersHoldNoHeader := fun p => by
  refine ⟨?_, patternsEscaped_stuff p, (patternsEscaped_stuff p).not_headerMark_infix⟩
  rw [← patternCount_zero_zero]
  exact ⟨stuff_length p, patternCount_zero_zero_le p⟩

/-! ## The table form of the CRC (`40_integrity.md` R136) -/

section CrcTable

theorem crcShift_of_lt (poly : Half) {c : Half} (h : c.toNat < 2 ^ 15) : crcShift poly c = c <<< 1 := by
  have hmsb : c.msb = false := by rw [BitVec.msb_eq_decide]; simpa using h
  simp [crcShift, hmsb]

/-- Eight turns shift a byte in the low half out of reach of the polynomial. -/
theorem crcShift8_setWidth (poly : Half) (x : Byte) : crcShift8 poly (x.setWidth 16) = x.setWidth 16 <<< 8 := by
  have hturn (n : Nat) (hn : n < 8) : crcShift poly (x.setWidth 16 <<< n) = x.setWidth 16 <<< (n + 1) := by
    rw [BitVec.shiftLeft_add]
    refine crcShift_of_lt poly ?_
    have hpow : 2 ^ n ≤ 2 ^ 7 := Nat.pow_le_pow_right (by decide) (by omega)
    have hx : x.toNat < 256 := x.isLt
    simp only [BitVec.toNat_shiftLeft, BitVec.toNat_setWidth, Nat.shiftLeft_eq]
    refine lt_of_le_of_lt (Nat.mod_le _ _) ?_
    calc x.toNat % 2 ^ 16 * 2 ^ n ≤ x.toNat * 2 ^ 7 := Nat.mul_le_mul (Nat.mod_le _ _) hpow
      _ < 2 ^ 15 := by omega
  have hzero : crcShift poly (x.setWidth 16) = x.setWidth 16 <<< 1 := by simpa using hturn 0 (by decide)
  rw [crcShift8, hzero, hturn 1 (by decide), hturn 2 (by decide), hturn 3 (by decide), hturn 4 (by decide),
    hturn 5 (by decide), hturn 6 (by decide), hturn 7 (by decide)]

/-- A register with a byte added is its low byte and, shifted up, its high byte with that byte added. -/
theorem register_xor_byte (c : Half) (b : Byte) :
    c ^^^ (b.setWidth 16 <<< 8) =
      (c.setWidth 8).setWidth 16 ^^^ (((c >>> 8).setWidth 8 ^^^ b).setWidth 16 <<< 8) := by
  ext i hi
  by_cases h : i < 8
  · simp [h, hi]
  · have hidx : 8 + (i - 8) = i := by omega
    simp [h, hidx, show i - 8 < 8 by omega, BitVec.getLsbD_eq_getElem hi]

theorem crcByteTable_eq_crcByte (poly c : Half) (b : Byte) : crcByteTable poly c b = crcByte poly c b := by
  have hlow : (c.setWidth 8).setWidth 16 <<< 8 = c <<< 8 := by
    ext i hi
    by_cases h : i < 8
    · simp [h]
    · simp [h, show i - 8 < 8 by omega, BitVec.getLsbD_eq_getElem (show i - 8 < 16 by omega)]
  rw [crcByte, register_xor_byte, crcShift8_xor, crcShift8_setWidth, hlow]
  rfl

end CrcTable

/-- Settles O9: the step agrees because the loop is linear, and so the fold does. -/
theorem crcTableFormAgrees : Obligations.CrcTableFormAgrees := by
  refine ⟨crcByteTable_eq_crcByte, fun c l => ?_⟩
  have hstep : crcByteTable c.crcPoly = crcByte c.crcPoly := funext₂ (crcByteTable_eq_crcByte c.crcPoly)
  rw [crc16Table, hstep]
  rfl

/-! ## One changed bit of a frame (`42_decode.md` R183) -/

section Flipped

variable {c : Config} {proto : Proto} {f : List Byte} {i : Nat} {v : Byte}

theorem headerMark_prefix_set (h : headerMark proto <+: f) (hi : (headerMark proto).length ≤ i) :
    headerMark proto <+: f.set i v := by
  rw [List.prefix_iff_eq_take] at h ⊢
  rw [List.take_set_of_le hi]
  exact h

theorem headerMark_length_le_idxId (proto : Proto) : (headerMark proto).length ≤ idxId proto := by cases proto <;> decide

theorem headerMark_length_le_idxSlot (proto : Proto) : (headerMark proto).length ≤ idxSlot proto := by
  cases proto <;> decide

theorem two_le_headerMark_length (proto : Proto) : 2 ≤ (headerMark proto).length := by cases proto <;> decide

/-- The length field stands between the id and the slot byte. -/
theorem lenOf_set (hi : i = idxId proto ∨ idxSlot proto ≤ i) (f : List Byte) (v : Byte) :
    lenOf proto (f.set i v) = lenOf proto f := by
  cases proto with
  | p1 =>
    simp only [idxId, idxSlot] at hi
    simp only [lenOf, byteAt_set_other (show i ≠ 3 by omega)]
  | p2 =>
    simp only [idxId, idxSlot] at hi
    simp only [lenOf, byteAt_set_other (show i ≠ 5 by omega), byteAt_set_other (show i ≠ 6 by omega)]

/-- Changing one byte behind the marker in any way makes the integrity test fail. -/
theorem integrityOk_set_eq_false (hc : configValid c) (hf : integrityOk c proto f = true) (h2 : 2 ≤ i)
    (hi : i < f.length) (hv : v ≠ byteAt f i) : integrityOk c proto (f.set i v) = false := by
  obtain ⟨-, -, -, -, hpoly, -⟩ := hc
  cases proto with
  | p1 => exact check1_set_eq_false hf h2 hi hv
  | p2 => exact check2_set_eq_false hpoly hf (by omega) hi hv

/-- A whole candidate that fails the integrity test is `Corrupt`, whatever its fields. -/
theorem scanFrom_corrupt_of_integrity (hend : lenEnd proto ≤ f.length) (hlen : lenOf proto f + lenOverhead proto = f.length)
    (hbad : integrityOk c proto f = false) : scanFrom c proto f = .corrupt := by
  rcases scanFrom_cases c proto f with ⟨-, hlt⟩ | ⟨e, -⟩ | ⟨-, -, -, -, ⟨-, hlt⟩ | ⟨-, hok, -⟩⟩
  · omega
  · exact e
  · omega
  · rw [hlen, List.take_length, hbad] at hok
    cases hok

end Flipped

/-- Settles O11: the marker and the length field stay, so the whole changed frame is the candidate, and its integrity test
fails. -/
theorem flippedFrameIsCorrupt : Obligations.FlippedFrameIsCorrupt := by
  intro c proto id ie p i k hc _ _ hmax hi hk hplace
  have hmark : (headerMark proto).length ≤ i := by
    rcases hplace with rfl | h
    · exact headerMark_length_le_idxId proto
    · exact (headerMark_length_le_idxSlot proto).trans h
  have hlen := lenOf_frame_add_lenOverhead c id ie (admitted_of_frameLength_le_rxMax hc hmax)
  have hend := (lenEnd_le_lenMin_add_lenOverhead proto).trans (lenMin_add_lenOverhead_le_frameLength proto p)
  rw [scan_of_mark (headerMark_prefix_set (headerMark_prefix_frame c proto id ie p) hmark)]
  refine scanFrom_corrupt_of_integrity ?_ ?_ ?_
  · rwa [List.length_set, frame_length]
  · rwa [lenOf_set hplace, List.length_set, frame_length]
  · exact integrityOk_set_eq_false hc (integrityOk_frame c proto id ie p) ((two_le_headerMark_length proto).trans hmark)
      hi (xor_bit_ne _ hk)

/-! ## What the request encoder answers (`41_encode.md` R159) -/

/-- A frame `EncodeReq` answers is that of the framer, for an available instruction and an id that is not reserved, and fits. -/
theorem encodeReq_eq_frame_iff {c : Config} {proto : Proto} {id b : Byte} {p f : List Byte} :
    encodeReq c proto id b p = .frame f ↔
      reservedId id = false ∧ (∃ i, instrOf c.opc b = some i ∧ avail proto i = true) ∧
        frameLength proto p ≤ txMax c proto ∧ f = frame c proto id b p := by
  unfold encodeReq
  cases hid : reservedId id
  · cases hi : instrOf c.opc b with
    | none => simp
    | some i =>
      cases ha : avail proto i
      · simp [ha]
      · by_cases hlen : frameLength proto p > txMax c proto
        · simp [ha, hlen, Nat.not_le.mpr hlen]
        · simp [ha, hlen, Nat.not_lt.mp hlen, eq_comm (a := f)]
  · simp

/-- The transmit limit of a valid configuration is not beyond what the length field can count. -/
theorem admitted_of_frameLength_le_txMax {c : Config} {proto : Proto} {p : List Byte} (hc : configValid c)
    (h : frameLength proto p ≤ txMax c proto) : Admitted proto p := by
  obtain ⟨⟨-, h1⟩, -, ⟨-, h2⟩, -⟩ := hc
  cases proto with
  | p1 => exact Nat.le_of_add_le_add_right (h.trans h1)
  | p2 => exact Nat.le_of_add_le_add_right (h.trans h2)

/-- Settles O14: the frame is the framer's, whose fields read back. -/
theorem encodedRequestIsALegalFrame : Obligations.EncodedRequestIsALegalFrame := by
  intro c proto id b p f hc h
  obtain ⟨-, -, hfit, rfl⟩ := encodeReq_eq_frame_iff.mp h
  have hlen := lenOf_frame_add_lenOverhead c id b (admitted_of_frameLength_le_txMax hc hfit)
  have hmin := lenMin_add_lenOverhead_le_frameLength proto p
  refine ⟨by rwa [frame_length], headerMark_prefix_frame c proto id b p, byteAt_frame_idxId c proto id b p,
    byteAt_frame_idxSlot c proto id b p, by omega, by rw [frame_length, hlen], integrityOk_frame c proto id b p⟩

/-! ## Decoding what was encoded (`30_encoding.md` R104, R114) -/

section Codec

variable {c : Config}

/-- The two checks of a wire instruction. -/
theorem wellFormed_of_request {i : Instr} {r : Request} (h : i.request? = some r) :
    i.wellFormed c = true ↔ reservedId r.id = false ∧ frameLength r.proto r.params ≤ rxMax c r.proto := by
  simp only [Instr.wellFormed, Instr.check, h, Request.check]
  cases reservedId r.id
  · by_cases hlen : frameLength r.proto r.params > rxMax c r.proto
    · simp [hlen, Nat.not_le.mpr hlen]
    · simp [hlen, Nat.not_lt.mp hlen]
  · simp

/-- The strict decoder on a frame of an instruction: the scanner delivers its fields, the slot byte names it. -/
theorem decodeFrame_frame (hc : configValid c) {r : Request} (hid : reservedId r.id = false)
    (hmax : frameLength r.proto r.params ≤ rxMax c r.proto) :
    decodeFrame c r.proto (frame c r.proto r.id (opcByte c.opc r.instr) r.params) =
      .ok (Instr.ofRequest r.proto r.instr r.id r.params) := by
  have hmark := List.isPrefixOf_iff_prefix.mpr (headerMark_prefix_frame c r.proto r.id (opcByte c.opc r.instr) r.params)
  simp [decodeFrame, hmark, scan_frame hc hid hmax, decodeSlot, instrOf_opcByte_of_valid hc]

end Codec

/-- Settles O2: a wire instruction by the round trip of its frame, a START command by its four bytes. -/
theorem decodeEncodeEveryInstruction : Obligations.DecodeEncodeEveryInstruction := by
  intro c i hc hwf
  cases h : i.request? with
  | some r =>
    obtain ⟨hid, hmax⟩ := (wellFormed_of_request h).mp hwf
    simp only [Instr.format, encode, h, decode]
    rw [decodeFrame_frame hc hid hmax, ← eq_ofRequest_of_request h]
  | none =>
    cases i with
    | startTx => rfl
    | startRx => rfl
    | startTxrx => rfl
    | startCollect => rfl
    | _ => cases h

/-- Settles O15: the four words, each evaluated. -/
theorem writtenWordsDecode : Obligations.WrittenWordsDecode := by
  refine ⟨?_, ?_, ?_, ?_⟩ <;> decide +kernel

end Sys2Proof.Machine

/-! What one event can do, said once (`10_state.md` R45): every outcome of `perform` with its condition and the next state. The
invariants and the safety theorems below are case analyses of this table. -/

namespace Sys2Proof.Machine

/-! ## Host accesses by their target (`20_memory.md` R62) -/

section Access

variable {addr n a i : Nat}

theorem accessTarget_eq_reg (h : accessTarget addr n = some (.reg a)) : a = addr ∧ n = 4 ∧ addr < 0x10000 := by
  unfold accessTarget at h
  split_ifs at h <;> simp_all

theorem accessTarget_eq_txp (h : accessTarget addr n = some (.txp i)) :
    addr = txpBase + i ∧ i + n ≤ 0x10000 ∧ (n = 1 ∨ n = 2 ∨ n = 4) := by
  unfold accessTarget at h
  split_ifs at h <;> simp [txpBase] at h ⊢
  omega

/-- A host write outside the START: to a register, to `TXP`, or to nothing that takes it, in every state alike. -/
theorem hostWrite_targets (addr n : Nat) (v : Word) :
    (∃ r, n = 4 ∧ addr < 0x10000 ∧ regAt addr = some r ∧ ∀ s, hostWrite addr n v s = writeReg r v s) ∨
    (∃ i, addr = txpBase + i ∧ 0 < n ∧ i + n ≤ 0x10000 ∧
      ∀ s, hostWrite addr n v s = writeTxp i (leBytes n v.toNat) s) ∨
    ∀ s, hostWrite addr n v s = s := by
  simp only [hostWrite]
  cases ht : accessTarget addr n with
  | none => exact .inr (.inr fun _ => rfl)
  | some target =>
    cases target with
    | reg a =>
      obtain ⟨rfl, rfl, hlt⟩ := accessTarget_eq_reg ht
      cases hr : regAt a with
      | none => exact .inr (.inr fun _ => by simp only [hr])
      | some r => exact .inl ⟨r, rfl, hlt, rfl, fun _ => by simp only [hr]⟩
    | txp i =>
      obtain ⟨rfl, hin, hn⟩ := accessTarget_eq_txp ht
      exact .inr (.inl ⟨i, rfl, by omega, hin, fun _ => rfl⟩)
    | rxp i => exact .inr (.inr fun _ => rfl)

/-- The offset of a register (`10_state.md` R23). -/
def Reg.offset : Reg → Nat
  | .ctrl => 0x00
  | .status => 0x04
  | .cmd => 0x08
  | .reqHdr => 0x0C
  | .reqRxlen => 0x10
  | .tLat => 0x14
  | .tByte => 0x18
  | .tSlack => 0x1C
  | .result => 0x20
  | .resHdr => 0x24
  | .budget => 0x28
  | .elapsed => 0x2C
  | .idcount => 0x30
  | .idmap k => 0x40 + 4 * k

theorem eq_offset_of_regAt {r : Reg} (h : regAt addr = some r) : addr = r.offset := by
  unfold regAt at h
  iterate 13
    obtain ⟨rfl, hr⟩ | ⟨-, h⟩ := ite_eq_iff.mp h
    · cases hr; rfl
  obtain ⟨hin, hr⟩ | ⟨-, h⟩ := ite_eq_iff.mp h
  · cases hr
    simp only [Reg.offset]
    omega
  · cases h

end Access

/-! ## The table -/

/-- START `v` is legal and so is its target, for the registers of `s` (`43_sequencer.md` R206, R207). -/
def Admits (v : Word) (s : State) : Prop :=
  legalCommand v = true ∧ targetRefused v s.proto s.reqId (instrOf s.cfg.opc s.reqInstr) = false

/-- The state with the request latched and one `Flush` emitted (`43_sequencer.md` R205). -/
def flushed (v : Word) (n : Nat) (s : State) : State := emit .flush (afterLatch v n s.events s)

/-- `Performs s e t`: the event `e` takes `s` to `t`. -/
inductive Performs (s : State) : Event → State → Prop
  | reset : Performs s .reset (resetEvent s)
  | hostRead (a n : Nat) : Performs s (.hostRead a n) (hostRead a n s)
  | registerWritten (a : Nat) (r : Reg) (v : Word) (hr : regAt a = some r) : Performs s (.hostWrite a 4 v) (writeReg r v s)
  | txpWritten (i n : Nat) (v : Word) (hin : i + n ≤ 0x10000) :
      Performs s (.hostWrite (txpBase + i) n v) (writeTxp i (leBytes n v.toNat) s)
  | writeIgnored (a n : Nat) (v : Word) : Performs s (.hostWrite a n v) s
  | startRejected (v : Word) (hbusy : s.phase ≠ .idle) : Performs s (.hostWrite 0x08 4 v) (portBusy s)
  | startRefused (v : Word) (n : Nat) (hidle : s.phase = .idle) (href : ¬ Admits v s) :
      Performs s (.hostWrite 0x08 4 v) (complete .notAvailable (clearForStart (carrying v n s.events s)))
  | startFailed (v : Word) (n : Nat) (code : CommResult) (hidle : s.phase = .idle) (hv : v = 1 ∨ v = 3 ∨ v = 7)
      (hadm : Admits v s) (hcode : code = .notAvailable ∨ code = .txError) :
      Performs s (.hostWrite 0x08 4 v) (complete code (flushed v n s))
  | startQueued (v : Word) (n : Nat) (f : List Byte) (hidle : s.phase = .idle) (hv : v = 1 ∨ v = 3 ∨ v = 7)
      (hadm : Admits v s) (henc : encodeReq s.cfg s.proto s.reqId s.reqInstr (requestParams s) = .frame f) :
      Performs s (.hostWrite 0x08 4 v)
        { flushed v n s with txq := f, curRx := receiveFollows v s.reqId (instrOf s.cfg.opc s.reqInstr), phase := .tx }
  | startReceives (n : Nat) (hidle : s.phase = .idle) (hadm : Admits 2 s) :
      Performs s (.hostWrite 0x08 4 2) (harvest (afterLatch 2 n s.events s))
  | byteSent (b : Byte) (rest : List Byte) (htx : s.phase = .tx) (hq : s.txq = b :: rest) (hrest : rest ≠ []) :
      Performs s .txAccept (emit (.txByte b) { s with txq := rest })
  | frameSentAwaiting (b : Byte) (htx : s.phase = .tx) (hq : s.txq = [b]) (hrx : s.curRx = true) :
      Performs s .txAccept { emit (.txByte b) { s with txq := [] } with elapsed := 0, phase := .rx }
  | frameSent (b : Byte) (htx : s.phase = .tx) (hq : s.txq = [b]) (hrx : s.curRx = false) :
      Performs s .txAccept (completeWith s.curId 0 [] (emit (.txByte b) { s with txq := [] }))
  | acceptIdle (h : s.phase ≠ .tx ∨ s.txq = []) : Performs s .txAccept s
  | refused (htx : s.phase = .tx) : Performs s .txRefuse (complete .txFail s)
  | refuseIdle (htx : s.phase ≠ .tx) : Performs s .txRefuse s
  | byteKept (b : Byte) (k : List Byte) (hrx : s.phase = .rx)
      (hscan : scan s.cfg s.curProto (s.rxbuf ++ [b]) = .needMore k) : Performs s (.rxByte b) { s with rxbuf := k }
  | corruptSeen (b : Byte) (hrx : s.phase = .rx) (hscan : scan s.cfg s.curProto (s.rxbuf ++ [b]) = .corrupt) :
      Performs s (.rxByte b) { s with rxbuf := [], corruptSeen := true }
  | responseAccepted (b ie : Byte) (ps rest : List Byte) (st : Status) (hrx : s.phase = .rx) (hcol : s.curCollect = false)
      (hscan : scan s.cfg s.curProto (s.rxbuf ++ [b]) = .frame s.curId ie ps rest)
      (hview : statusView s.cfg s.curProto ie ps = some st) :
      Performs s (.rxByte b) (completeWith s.curId st.err st.data { s with rxbuf := rest })
  | idRecorded (b id ie : Byte) (ps rest : List Byte) (hrx : s.phase = .rx) (hcol : s.curCollect = true)
      (hscan : scan s.cfg s.curProto (s.rxbuf ++ [b]) = .frame id ie ps rest)
      (hview : (statusView s.cfg s.curProto ie ps).isSome = true) (hid : addressableId id = true) :
      Performs s (.rxByte b) (recordId id { s with rxbuf := rest })
  | frameDiscarded (b id ie : Byte) (ps rest : List Byte) (hrx : s.phase = .rx)
      (hscan : scan s.cfg s.curProto (s.rxbuf ++ [b]) = .frame id ie ps rest)
      (hmiss : statusView s.cfg s.curProto ie ps = none ∨ (s.curCollect = false ∧ id ≠ s.curId) ∨
        (s.curCollect = true ∧ addressableId id = false)) :
      Performs s (.rxByte b) { s with rxbuf := rest, idmissSeen := true }
  | byteIdle (b : Byte) (hrx : s.phase ≠ .rx) : Performs s (.rxByte b) s
  | tickCounted (hrx : s.phase = .rx) (hin : ¬ s.budget < satTW (s.elapsed.toNat + 1)) :
      Performs s .tick { s with elapsed := satTW (s.elapsed.toNat + 1) }
  | collectEnded (hrx : s.phase = .rx) (hover : s.budget < satTW (s.elapsed.toNat + 1)) (hcol : s.curCollect = true)
      (hids : 0 < s.idcount.toNat) :
      Performs s .tick (completeWith s.curId 0 [] { s with elapsed := satTW (s.elapsed.toNat + 1) })
  | timedOut (hrx : s.phase = .rx) (hover : s.budget < satTW (s.elapsed.toNat + 1))
      (hnone : ¬ (s.curCollect = true ∧ 0 < s.idcount.toNat)) :
      Performs s .tick (complete .rxTimeout { s with elapsed := satTW (s.elapsed.toNat + 1) })
  | tickIdle (hrx : s.phase ≠ .rx) : Performs s .tick s

/-! ## Every event is in the table -/

section Totality

variable {s : State}

theorem not_admits_iff {v : Word} :
    ¬ Admits v s ↔ legalCommand v = false ∨ targetRefused v s.proto s.reqId (instrOf s.cfg.opc s.reqInstr) = true := by
  rw [Admits, Decidable.not_and_iff_or_not, Bool.not_eq_true, Bool.not_eq_false]

theorem performs_startWithParams {v : Word} (hidle : s.phase = .idle) (hv : v = 1 ∨ v = 3 ∨ v = 7) (n : Nat) :
    Performs s (.hostWrite 0x08 4 v)
      (start v s.proto s.reqId s.reqInstr (requestParams s) (carrying v n s.events s)) := by
  by_cases hadm : Admits v s
  case neg =>
    rw [start_of_refused (s := carrying v n s.events s) (p := s.proto) (id := s.reqId) (b := s.reqInstr) hidle (not_admits_iff.mp hadm)]
    exact .startRefused v n hidle hadm
  have htx : cmdTx v = true := by rcases hv with rfl | rfl | rfl <;> rfl
  rw [start_of_transmit (s := carrying v n s.events s) (p := s.proto) (id := s.reqId) (b := s.reqInstr) hidle hadm.1 hadm.2 htx]
  rcases transmit_cases v s.proto s.reqId s.reqInstr (requestParams s) (afterLatch v n s.events s) with
    ⟨-, e⟩ | ⟨-, e⟩ | ⟨f, henc, e⟩
  · exact e ▸ .startFailed v n .notAvailable hidle hv hadm (.inl rfl)
  · exact e ▸ .startFailed v n .txError hidle hv hadm (.inr rfl)
  · exact e ▸ .startQueued v n f hidle hv hadm henc

theorem performs_startWithoutParams {v : Word} (hidle : s.phase = .idle) (h1 : v ≠ 1) (h3 : v ≠ 3) (h7 : v ≠ 7) :
    Performs s (.hostWrite 0x08 4 v) (start v s.proto s.reqId s.reqInstr [] (carrying v s.free s.events s)) := by
  by_cases hadm : Admits v s
  case neg =>
    rw [start_of_refused (s := carrying v s.free s.events s) (p := s.proto) (id := s.reqId) (b := s.reqInstr) hidle (not_admits_iff.mp hadm)]
    exact .startRefused v s.free hidle hadm
  obtain rfl : v = 2 := by simpa only [h1, h3, h7, false_or, or_false] using legalCommand_iff.mp hadm.1
  rw [start_of_harvest (s := carrying 2 s.free s.events s) (p := s.proto) (id := s.reqId) (b := s.reqInstr) hidle hadm.1 hadm.2 rfl]
  exact .startReceives s.free hidle hadm

theorem startEvent_performs (v : Word) (s : State) : ∃ t, startEvent v s = .next t ∧ Performs s (.hostWrite 0x08 4 v) t := by
  rcases startEvent_cases v s with ⟨hbusy, e⟩ | ⟨hidle, hv, e⟩ | ⟨hidle, h1, h3, h7, e⟩
  · exact ⟨_, e, .startRejected v hbusy⟩
  · exact ⟨_, e, performs_startWithParams hidle hv _⟩
  · exact ⟨_, e, performs_startWithoutParams hidle h1 h3 h7⟩

theorem txAccept_performs (s : State) : Performs s .txAccept (txAccept s) := by
  rcases txAccept_cases s with ⟨b, rest, hp, hq, hne, e⟩ | ⟨b, hp, hq, hc, e⟩ | ⟨b, hp, hq, hc, e⟩ | ⟨h, e⟩ <;> rw [e]
  · exact .byteSent b rest hp hq hne
  · exact .frameSentAwaiting b hp hq hc
  · exact .frameSent b hp hq hc
  · exact .acceptIdle h

theorem rxByte_performs (b : Byte) (s : State) : Performs s (.rxByte b) (rxByte b s) := by
  rcases rxByte_cases b s with ⟨k, hp, hk, e⟩ | ⟨hp, hk, e⟩ | ⟨id, ie, ps, rest, hp, hf, hc, e⟩ |
    ⟨id, ie, ps, rest, hp, hf, hc, e⟩ | ⟨hp, e⟩ <;> rw [e]
  · exact .byteKept b k hp hk
  · exact .corruptSeen b hp hk
  · rcases collectFrame_cases id (statusView s.cfg s.curProto ie ps) { s with rxbuf := rest } with
      ⟨hv, hid, e⟩ | ⟨h, e⟩ <;> rw [e]
    · exact .idRecorded b id ie ps rest hp hc hf hv hid
    · refine .frameDiscarded b id ie ps rest hp hf ?_
      rcases h with h | h
      · exact .inl (by simpa using h)
      · exact .inr (.inr ⟨hc, h⟩)
  · rcases responseFrame_cases id (statusView s.cfg s.curProto ie ps) { s with rxbuf := rest } with
      ⟨st, hv, hid, e⟩ | ⟨h, e⟩ <;> rw [e]
    · obtain rfl : id = s.curId := hid
      exact .responseAccepted b ie ps rest st hp hc hf hv
    · refine .frameDiscarded b id ie ps rest hp hf ?_
      rcases h with h | h
      · exact .inl h
      · exact .inr (.inl ⟨hc, h⟩)
  · exact .byteIdle b hp

theorem tick_performs (s : State) : Performs s .tick (tick s) := by
  rcases tick_cases s with ⟨hp, hin, e⟩ | ⟨hp, hover, hc, hids, e⟩ | ⟨hp, hover, hnone, e⟩ | ⟨hp, e⟩ <;> rw [e]
  · exact .tickCounted hp hin
  · exact .collectEnded hp hover hc hids
  · exact .timedOut hp hover hnone
  · exact .tickIdle hp

theorem txRefuse_performs (s : State) : Performs s .txRefuse (txRefuse s) := by
  rcases txRefuse_cases s with ⟨hp, e⟩ | ⟨hp, e⟩ <;> rw [e]
  · exact .refused hp
  · exact .refuseIdle hp

/-- Every event answers a next state, and the table says which. -/
theorem perform_performs (e : Event) (s : State) : ∃ t, perform e s = .next t ∧ Performs s e t := by
  cases e with
  | reset => exact ⟨_, rfl, .reset⟩
  | hostRead a n => exact ⟨_, rfl, .hostRead a n⟩
  | hostWrite a n v =>
    by_cases hcmd : a = cmdAddr ∧ n = 4
    · obtain ⟨rfl, rfl⟩ := hcmd
      exact startEvent_performs v s
    · refine ⟨hostWrite a n v s, if_neg hcmd, ?_⟩
      rcases hostWrite_targets a n v with ⟨r, rfl, -, hr, e⟩ | ⟨i, rfl, -, hin, e⟩ | e <;> rw [e]
      · exact .registerWritten a r v hr
      · exact .txpWritten i n v hin
      · exact .writeIgnored a n v
  | txAccept => exact ⟨_, rfl, txAccept_performs s⟩
  | txRefuse => exact ⟨_, rfl, txRefuse_performs s⟩
  | rxByte b => exact ⟨_, rfl, rxByte_performs b s⟩
  | tick => exact ⟨_, rfl, tick_performs s⟩

theorem performs_of_perform {t : State} {e : Event} (h : perform e s = .next t) : Performs s e t := by
  obtain ⟨t', h', ht⟩ := perform_performs e s
  cases h'.symm.trans h
  exact ht

/-- A step takes the first event. -/
theorem step_of_events {e : Event} {es : List Event} (h : s.events = e :: es) :
    step s = perform e { s with events := es } := by
  rcases step_cases s with ⟨hnil, -⟩ | ⟨e', es', hcons, hstep⟩
  · cases h.symm.trans hnil
  · cases h.symm.trans hcons
    exact hstep

theorem step_performs {t : State} {e : Event} {es : List Event} (h : s.events = e :: es) (ht : step s = .next t) :
    Performs { s with events := es } e t :=
  performs_of_perform ((step_of_events h).symm.trans ht)

/-- A property that does not look at the schedule and that every outcome of the table keeps, every step keeps. -/
theorem step_keeps {I : State → Prop} (hevents : ∀ s es, I s → I { s with events := es })
    (hkeep : ∀ s e t, Performs s e t → I s → I t) {t : State} (hs : I s) (ht : step s = .next t) : I t := by
  cases h : s.events with
  | nil =>
    rcases step_cases s with ⟨-, hstep⟩ | ⟨e, es, hcons, -⟩
    · cases hstep.symm.trans ht
      exact hs
    · cases h.symm.trans hcons
  | cons e es => exact hkeep _ e t (step_performs h ht) (hevents s es hs)

end Totality

/-- Settles O44: the table has an outcome for every event; an instruction is a START event or a request carried. -/
theorem everyStepAnswersANextState : Obligations.EveryStepAnswersANextState := by
  refine ⟨fun s => ?_, fun i s => ?_⟩
  · rcases step_cases s with ⟨-, e⟩ | ⟨ev, es, -, e⟩
    · exact ⟨s, e⟩
    · obtain ⟨t, ht, -⟩ := perform_performs ev { s with events := es }
      exact ⟨t, e.trans ht⟩
  · rcases exec_cases i s with ⟨v, -, e⟩ | ⟨r, -, e⟩
    · obtain ⟨t, ht, -⟩ := startEvent_performs v s
      exact ⟨t, e.trans ht⟩
    · exact ⟨_, e⟩

end Sys2Proof.Machine

/-! The invariants of a safe state (`10_state.md` R33 to R37), each by the table of `Performs`. -/

namespace Sys2Proof.Machine

/-! ## Response data fit `RXP` (`42_decode.md` R172, R185) -/

section ResponseData

variable {c : Config} {p : Proto} {id ie : Byte} {ps rest buf : List Byte}

theorem unstuffFrom_length_le (a b : Byte) (w : List Byte) : (unstuffFrom a b w).length ≤ w.length := by
  fun_induction unstuffFrom a b w with
  | case1 => exact le_rfl
  | case2 => exact le_rfl
  | case3 a b x y ys _ ih => simp only [List.length_cons]; omega
  | case4 a b x y ys _ ih => simp only [List.length_cons] at ih ⊢; omega

theorem deliveredParams_length_le (p : Proto) (w : List Byte) : (deliveredParams p w).length ≤ w.length := by
  cases p with
  | p1 => exact le_rfl
  | p2 => exact unstuffFrom_length_le 0 0 w

/-- What a frame within the receive limit holds beside its parameters leaves them the capacity of `RXP`. -/
theorem rxMax_sub_le_rxpCap (c : Config) (p : Proto) : rxMax c p - trailerWidth p - idxParam p ≤ rxpCap c := by
  cases p <;> simp only [rxMax, trailerWidth, idxParam, rxpCap] <;> omega

theorem scanFrom_frame_params_length_le {f : List Byte} (h : scanFrom c p f = .frame id ie ps rest) :
    ps.length ≤ rxpCap c := by
  rcases scanFrom_cases c p f with ⟨e, -⟩ | ⟨e, -⟩ | ⟨-, -, -, hmax, ⟨e, -⟩ | ⟨-, -, e⟩⟩ <;> rw [e] at h
  · cases h
  · cases h
  · cases h
  · obtain ⟨-, -, rfl, -⟩ := Verdict.frame.inj h
    refine (deliveredParams_length_le p _).trans (le_trans ?_ (rxMax_sub_le_rxpCap c p))
    simp only [slice, List.length_drop, List.length_take]
    omega

theorem scan_frame_params_length_le (h : scan c p buf = .frame id ie ps rest) : ps.length ≤ rxpCap c := by
  rcases scan_cases c p buf with ⟨-, -, e⟩ | ⟨-, -, e⟩ | ⟨i, -, e⟩ <;> rw [e] at h
  · cases h
  · cases h
  · exact scanFrom_frame_params_length_le h

theorem statusView_data_length_le {st : Status} (h : statusView c p ie ps = some st) : st.data.length ≤ ps.length := by
  unfold statusView at h
  split at h
  · cases h; exact le_rfl
  split at h
  · cases h; exact le_rfl
  split at h
  · cases h
  split at h <;> cases h
  simp

/-- The data of an accepted status frame fit `RXP`. -/
theorem statusData_length_le {st : Status} (hscan : scan c p buf = .frame id ie ps rest)
    (hview : statusView c p ie ps = some st) : st.data.length ≤ rxpCap c :=
  (statusView_data_length_le hview).trans (scan_frame_params_length_le hscan)

end ResponseData

/-! ## The buffer memory stays canonical (`10_state.md` R33, R34) -/

section Memory

variable {s t : State}

theorem memoryInv_writeTxp (h : MemoryInv s) (i : Nat) (bs : List Byte) : MemoryInv (writeTxp i bs s) := by
  obtain ⟨hwf, hin⟩ := h
  refine ⟨Memory.writeList_wf hwf _ _, fun c hc => ?_⟩
  rcases Memory.mem_writeList hc with ⟨hlo, hhi⟩ | hc
  · rw [List.length_take] at hhi
    simp only [writeTxp_cfg]
    omega
  · exact hin c hc

theorem memoryInv_completeWith (h : MemoryInv s) (id err : Byte) {data : List Byte} (hd : data.length ≤ rxpCap s.cfg) :
    MemoryInv (completeWith id err data s) := by
  obtain ⟨hwf, hin⟩ := h
  refine ⟨Memory.writeList_wf hwf _ _, fun c hc => ?_⟩
  rcases Memory.mem_writeList hc with ⟨hlo, hhi⟩ | hc
  · simp only [completeWith_cfg]
    omega
  · exact hin c hc

theorem memoryInv_reset (s : State) : MemoryInv (resetEvent s) :=
  ⟨State.reset_mem_wf, fun _ hc => absurd hc List.not_mem_nil⟩

theorem Performs.memoryInv {e : Event} (hp : Performs s e t) (h : MemoryInv s) : MemoryInv t := by
  cases hp with
  | reset => exact memoryInv_reset s
  | registerWritten a r v hr => cases r <;> exact h
  | txpWritten i n v hin => exact memoryInv_writeTxp h ..
  | frameSent b =>
    exact memoryInv_completeWith (s := emit (.txByte b) { s with txq := [] }) h _ _ (Nat.zero_le _)
  | responseAccepted b ie ps rest st _ _ hscan hview =>
    exact memoryInv_completeWith (s := { s with rxbuf := rest }) h _ _ (statusData_length_le hscan hview)
  | collectEnded =>
    exact memoryInv_completeWith (s := { s with elapsed := satTW (s.elapsed.toNat + 1) }) h _ _ (Nat.zero_le _)
  | _ => exact h

end Memory

/-- Settles O45: the two writers of the memory are `TXP` writes, cut at the capacity, and completions with data that fit. -/
theorem stepKeepsTheMemoryCanonical : Obligations.StepKeepsTheMemoryCanonical := fun _ _ =>
  step_keeps (I := MemoryInv) (fun _ _ h => h) fun _ _ _ hp => hp.memoryInv

/-! ## The data of the last success stay written (`10_state.md` R31, R34) -/

section ResultData

variable {s t : State}

theorem Memory.isSome_read?_write (m : Memory) (a : Nat) (b : Byte) {x : Nat} (h : (m.read? x).isSome) :
    ((m.write a b).read? x).isSome := by
  by_cases hx : x = a
  · subst hx
    rw [Memory.read?_write_same]
    rfl
  · rwa [Memory.read?_write_other m b hx]

/-- No write makes a written byte unwritten. -/
theorem Memory.isSome_read?_writeList {m : Memory} (a : Nat) (bs : List Byte) {x : Nat} (h : (m.read? x).isSome) :
    ((m.writeList a bs).read? x).isSome := by
  induction bs generalizing m a with
  | nil => exact h
  | cons b bs ih => exact ih (a + 1) (Memory.isSome_read?_write m a b h)

theorem dataInv_completeWith (hc : configValid s.cfg) (id err : Byte) {data : List Byte}
    (hd : data.length ≤ rxpCap s.cfg) : DataInv (completeWith id err data s) := by
  have hplen : (BitVec.ofNat 16 data.length).toNat ≤ data.length := Nat.mod_le _ _
  refine ⟨hc, hplen.trans hd, fun i hi => ?_⟩
  have hwritten := Memory.read?_writeList s.mem rxpBase data (Nat.lt_of_lt_of_le hi hplen)
  simp only [completeWith_mem, hwritten, Option.isSome_some]

theorem dataInv_writeTxp (h : DataInv s) (i : Nat) (bs : List Byte) : DataInv (writeTxp i bs s) := by
  obtain ⟨hc, hlen, hwritten⟩ := h
  exact ⟨hc, hlen, fun j hj => Memory.isSome_read?_writeList _ _ (hwritten j hj)⟩

theorem dataInv_reset (hc : configValid s.cfg) : DataInv (resetEvent s) :=
  ⟨hc, Nat.zero_le _, fun _ hi => absurd hi (Nat.not_lt_zero _)⟩

theorem Performs.dataInv {e : Event} (hp : Performs s e t) (h : DataInv s) : DataInv t := by
  have hc : configValid s.cfg := h.1
  cases hp with
  | reset => exact dataInv_reset hc
  | registerWritten a r v hr => cases r <;> exact h
  | txpWritten i n v hin => exact dataInv_writeTxp h ..
  | frameSent b => exact dataInv_completeWith (s := emit (.txByte b) { s with txq := [] }) hc _ _ (Nat.zero_le _)
  | responseAccepted b ie ps rest st _ _ hscan hview =>
    exact dataInv_completeWith (s := { s with rxbuf := rest }) hc _ _ (statusData_length_le hscan hview)
  | collectEnded =>
    exact dataInv_completeWith (s := { s with elapsed := satTW (s.elapsed.toNat + 1) }) hc _ _ (Nat.zero_le _)
  | _ => exact h

end ResultData

/-- Settles O50: only a completion with `Success` counts new data, and it has written them; every other write adds bytes. -/
theorem stepKeepsTheResultDataWritten : Obligations.StepKeepsTheResultDataWritten := fun _ _ =>
  step_keeps (I := DataInv) (fun _ _ h => h) fun _ _ _ hp => hp.dataInv

/-! ## The request in flight (`43_sequencer.md` R205, R207, R209, R225) -/

section Current

variable {s t : State}

theorem currentInv_idle (h : s.phase = .idle) : CurrentInv s := fun hp => absurd h hp

theorem addressableId_iff {id : Byte} : addressableId id = true ↔ id.toNat ≤ 252 := decide_eq_true_iff

/-- The ids that are not addressable are the broadcast id and the reserved ones (`30_encoding.md` R100). -/
theorem addressableId_iff_ne {id : Byte} : addressableId id = true ↔ id ≠ 254 ∧ reservedId id = false := by
  rw [addressableId_iff, ← Bool.not_eq_true, reservedId_iff]
  bv_omega

theorem Admits.legal {v : Word} (h : Admits v s) : v = 1 ∨ v = 2 ∨ v = 3 ∨ v = 7 := legalCommand_iff.mp h.1

theorem Admits.not_refused {v : Word} (h : Admits v s) :
    ¬ ((s.reqId = 253 ∨ s.reqId = 255) ∨
      (v = 7 ∧ ¬ (s.proto = .p2 ∧ s.reqId = 254 ∧ instrOf s.cfg.opc s.reqInstr = some .ping)) ∨
      ((v = 1 ∨ v = 3) ∧ s.reqId = 254 ∧
        (instrOf s.cfg.opc s.reqInstr = some .ping ∨ instrOf s.cfg.opc s.reqInstr = some .read)) ∨
      (v = 2 ∧ s.reqId = 254)) := by
  rw [← targetRefused_iff h.legal, h.2]
  decide

theorem Admits.reservedId_eq_false {v : Word} (h : Admits v s) : reservedId s.reqId = false := by
  rw [← Bool.not_eq_true, reservedId_iff]
  exact fun hid => h.not_refused (.inl hid)

theorem Admits.collect (h : Admits 7 s) :
    s.proto = .p2 ∧ s.reqId = 254 ∧ instrOf s.cfg.opc s.reqInstr = some .ping := by
  by_contra hn
  exact h.not_refused (.inr (.inl ⟨rfl, hn⟩))

theorem Admits.addressable_of_receive (h : Admits 2 s) : addressableId s.reqId = true :=
  addressableId_iff_ne.mpr ⟨fun hid => h.not_refused (.inr (.inr (.inr ⟨rfl, hid⟩))), h.reservedId_eq_false⟩

/-- A response outside collect mode is not awaited from the broadcast id. -/
theorem ne_broadcast_of_receiveFollows {v : Word} {id : Byte} {i : Option WireInstr} (hc : cmdCollect v = false)
    (h : receiveFollows v id i = true) : id ≠ 254 := by
  simp only [receiveFollows, hc, Bool.false_or, Bool.and_eq_true, bne_iff_ne] at h
  exact h.1.2

theorem receiveFollows_of_collect {v : Word} (hc : cmdCollect v = true) (id : Byte) (i : Option WireInstr) :
    receiveFollows v id i = true := by
  simp [receiveFollows, hc]

theorem currentInv_queued {v : Word} (h : Admits v s) (n : Nat) (f : List Byte) :
    CurrentInv { flushed v n s with
      txq := f, curRx := receiveFollows v s.reqId (instrOf s.cfg.opc s.reqInstr), phase := .tx } := by
  refine fun _ => ⟨h.reservedId_eq_false, fun hc => ?_, fun hp => by simp at hp, fun hrx hc => ?_⟩
  · have hc : cmdCollect v = true := hc
    obtain rfl : v = 7 := by rwa [cmdCollect_eq h.legal, decide_eq_true_iff] at hc
    exact ⟨h.collect.1, h.collect.2.1, receiveFollows_of_collect hc s.reqId (instrOf s.cfg.opc s.reqInstr)⟩
  · exact addressableId_iff_ne.mpr ⟨ne_broadcast_of_receiveFollows hc hrx, h.reservedId_eq_false⟩

theorem currentInv_receives (h : Admits 2 s) (n : Nat) : CurrentInv (harvest (afterLatch 2 n s.events s)) :=
  fun _ => ⟨h.reservedId_eq_false, fun hc => absurd hc Bool.false_ne_true, fun _ => rfl, fun _ _ => h.addressable_of_receive⟩

theorem Performs.currentInv {e : Event} (hp : Performs s e t) (h : CurrentInv s) : CurrentInv t := by
  cases hp with
  | registerWritten a r v hr => cases r <;> exact h
  | startQueued v n f _ _ hadm => exact currentInv_queued hadm n f
  | startReceives n _ hadm => exact currentInv_receives hadm n
  | frameSentAwaiting b htx hq hrx =>
    obtain ⟨hid, hcol, -, haddr⟩ := h (by simp [htx])
    exact fun _ => ⟨hid, hcol, fun _ => hrx, haddr⟩
  | reset | startRefused | startFailed | frameSent | refused | responseAccepted | collectEnded | timedOut =>
    exact currentInv_idle rfl
  | _ => exact h

theorem timerInv_of_ne_rx (h : s.phase ≠ .rx) : TimerInv s := fun hp => absurd hp h

theorem Performs.timerInv {e : Event} (hp : Performs s e t) (h : TimerInv s) : TimerInv t := by
  cases hp with
  | registerWritten a r v hr => cases r <;> exact h
  | startQueued => exact timerInv_of_ne_rx (by simp)
  | startReceives | frameSentAwaiting => exact fun _ => BitVec.le_def.mpr (Nat.zero_le _)
  | tickCounted hrx hin => exact fun _ => BitVec.not_lt.mp hin
  | reset | startRefused | startFailed | frameSent | refused | responseAccepted | collectEnded | timedOut =>
    exact timerInv_of_ne_rx (by simp [resetEvent, State.reset])
  | _ => exact h

end Current

/-- Settles O47: a START latches what its checks allow, the receive phase begins with `elapsed` 0, a tick beyond the budget ends
it. -/
theorem stepKeepsTheRequestInFlightLegal : Obligations.StepKeepsTheRequestInFlightLegal :=
  ⟨fun _ _ => step_keeps (I := CurrentInv) (fun _ _ h => h) fun _ _ _ hp => hp.currentInv,
    fun _ _ => step_keeps (I := TimerInv) (fun _ _ h => h) fun _ _ _ hp => hp.timerInv⟩

/-! ## The id map (`10_state.md` R35) -/

section IdMap

variable {s t : State}

/-- One bit more, that of `id`. -/
theorem getLsbD_recordId (id : Byte) (s : State) (j : Nat) :
    (recordId id s).idmap.getLsbD j = (s.idmap.getLsbD j || decide (j = id.toNat)) := by
  have hid : id.toNat < 256 := id.isLt
  simp only [recordId, BitVec.getLsbD_or, BitVec.getLsbD_shiftLeft, BitVec.getLsbD_one]
  grind

/-- A map whose last bit is 0 has at most 255 bits set, which `IDCOUNT` can hold. -/
theorem idCountOf_lt_of_top {m : BitVec 256} (h : m.getLsbD 255 = false) : idCountOf m < 256 := by
  have hle := List.countP_le_length (p := fun i => m.getLsbD i) (l := List.range 255)
  rw [List.length_range] at hle
  simp only [idCountOf, List.range_succ (n := 255), List.countP_append, List.countP_singleton, h]
  simp only [Bool.false_eq_true, if_false]
  omega

theorem idMapInv_recordId (h : IdMapInv s) {id : Byte} (hid : addressableId id = true) : IdMapInv (recordId id s) := by
  obtain ⟨h253, h254, h255, -⟩ := h
  rw [addressableId_iff] at hid
  have hkeep (j : Nat) (hj : 252 < j) (hbit : s.idmap.getLsbD j = false) : (recordId id s).idmap.getLsbD j = false := by
    rw [getLsbD_recordId, hbit, decide_eq_false (by omega), Bool.or_self]
  have htop := hkeep 255 (by decide) h255
  refine ⟨hkeep 253 (by decide) h253, hkeep 254 (by decide) h254, htop, ?_⟩
  rw [recordId_idcount, ← recordId_idmap, BitVec.toNat_ofNat]
  exact Nat.mod_eq_of_lt (idCountOf_lt_of_top htop)

theorem idMapInv_of_zero (hm : s.idmap = 0) (hn : s.idcount = 0) : IdMapInv s := by
  simp [IdMapInv, hm, hn, idCountOf]

/-- The latch keeps the map or clears it with its count (`43_sequencer.md` R211). -/
theorem idMapInv_afterLatch (h : IdMapInv s) (v : Word) (n : Nat) (es : List Event) : IdMapInv (afterLatch v n es s) := by
  cases hc : cmdCollect v with
  | false =>
    have hm : (afterLatch v n es s).idmap = s.idmap := if_neg (by simp [hc])
    have hn : (afterLatch v n es s).idcount = s.idcount := if_neg (by simp [hc])
    rwa [IdMapInv, hm, hn]
  | true => exact idMapInv_of_zero (if_pos hc) (if_pos hc)

theorem Performs.idMapInv {e : Event} (hp : Performs s e t) (h : IdMapInv s) : IdMapInv t := by
  cases hp with
  | reset => exact idMapInv_of_zero rfl rfl
  | registerWritten a r v hr => cases r <;> exact h
  | startFailed v n | startQueued v n => exact idMapInv_afterLatch h v n s.events
  | startReceives n => exact idMapInv_afterLatch h 2 n s.events
  | idRecorded b id ie ps rest _ _ _ _ hid => exact idMapInv_recordId (s := { s with rxbuf := rest }) h hid
  | _ => exact h

end IdMap

/-- Settles O48: the map changes by the bit of an addressable id, counted again, or is cleared. -/
theorem stepKeepsTheIdMapCounted : Obligations.StepKeepsTheIdMapCounted := fun _ _ =>
  step_keeps (I := IdMapInv) (fun _ _ h => h) fun _ _ _ hp => hp.idMapInv

/-! ## The result (`60_exceptions.md` R300, R309, `93_implementation_defined.md` U14) -/

section Result

variable {s t : State}

theorem resultInv_complete {code : CommResult} (s : State)
    (h : code ∈ [CommResult.success, .txFail, .txError, .rxTimeout, .notAvailable]) : ResultInv (complete code s) := by
  refine ⟨List.mem_append_left [CommResult.none] h, fun _ => ⟨?_, rfl⟩⟩
  rintro rfl
  simp at h

/-- Nothing that leaves `RESULT` alone and clears `DONE` disturbs the invariant. -/
theorem ResultInv.of_not_done (h : ResultInv s) (hr : t.result = s.result) (hd : t.done = false) : ResultInv t := by
  refine ⟨hr ▸ h.1, fun ht => ?_⟩
  rw [hd] at ht
  cases ht

theorem resultInv_acknowledge (h : ResultInv s) (v : Word) : ResultInv (acknowledge v s) := by
  refine ⟨h.1, fun hd => h.2 ?_⟩
  simp only [acknowledge, Bool.and_eq_true] at hd
  exact hd.1

theorem ResultInv.not_done_of_busy (h : ResultInv s) (hp : s.phase ≠ .idle) : s.done = false := by
  cases hd : s.done with
  | false => rfl
  | true => exact absurd (h.2 hd).2 hp

theorem Performs.resultInv {e : Event} (hp : Performs s e t) (h : ResultInv s) : ResultInv t := by
  cases hp with
  | reset => exact ⟨by simp [resetEvent, State.reset], fun hd => absurd hd (by simp [resetEvent, State.reset])⟩
  | registerWritten a r v hr =>
    cases r with
    | status => exact resultInv_acknowledge h v
    | _ => exact h
  | startQueued | startReceives => exact h.of_not_done rfl rfl
  | frameSentAwaiting b htx => exact h.of_not_done rfl (h.not_done_of_busy (by simp [htx]))
  | startFailed v n code _ _ _ hcode =>
    refine resultInv_complete _ ?_
    rcases hcode with rfl | rfl <;> decide
  | startRefused | frameSent | refused | responseAccepted | collectEnded | timedOut =>
    exact resultInv_complete _ (by decide)
  | _ => exact h

theorem resultCode_deliverable (h : ResultInv s) : resultCode s.result ∈ [(0 : BitVec 4), 2, 4, 6, 8, 15] := by
  have hall : ∀ r ∈ [CommResult.success, .txFail, .txError, .rxTimeout, .notAvailable, .none],
      resultCode r ∈ [(0 : BitVec 4), 2, 4, 6, 8, 15] := by decide
  exact hall s.result h.1

end Result

/-- Settles O49: every completion delivers one of five codes and ends in `IDLE`; what begins a request clears `DONE`. -/
theorem stepKeepsTheResultDeliverable : Obligations.StepKeepsTheResultDeliverable := fun _ _ h ht =>
  have ht := step_keeps (I := ResultInv) (fun _ _ h => h) (fun _ _ _ hp => hp.resultInv) h ht
  ⟨ht, resultCode_deliverable ht⟩

/-! ## After reset (`10_state.md` R48 to R50) -/

theorem configValid_default : configValid Config.default := by decide

/-- Settles O51: at reset MPF is idle and every register is zero but `RESULT`. -/
theorem resetSatisfiesEveryInvariant : Obligations.ResetSatisfiesEveryInvariant where
  memory := memoryInv_reset State.reset
  queues := (queueInv_idle rfl).mpr ⟨configValid_default, rfl, rfl⟩
  current := currentInv_idle rfl
  idMap := idMapInv_of_zero rfl rfl
  result := ⟨by decide, fun h => absurd h (by decide)⟩
  timer := timerInv_of_ne_rx (by decide)
  data := dataInv_reset (s := State.reset) configValid_default

end Sys2Proof.Machine

/-! What each START does to an idle MPF, with the whole next state (`43_sequencer.md` R205 to R211, `44_instructions.md` R252 to
R264). -/

namespace Sys2Proof.Machine

/-! ## Which requests the target checks allow (`43_sequencer.md` R207) -/

section Targets

variable {v : Word} {p : Proto} {id : Byte} {i : WireInstr}

theorem targetRefused_eq_false_iff (hv : v = 1 ∨ v = 2 ∨ v = 3 ∨ v = 7) {i : Option WireInstr} :
    targetRefused v p id i = false ↔
      (id ≠ 253 ∧ id ≠ 255) ∧ (v = 7 → p = .p2 ∧ id = 254 ∧ i = some .ping) ∧
        ((v = 1 ∨ v = 3) → id = 254 → i ≠ some .ping ∧ i ≠ some .read) ∧ (v = 2 → id ≠ 254) := by
  rw [← Bool.not_eq_true, targetRefused_iff hv]
  simp only [not_or, not_and, Classical.not_imp, not_not, ne_eq]

/-- `START TX` and `START TXRX` may carry any request but a Ping or Read to the broadcast id. -/
theorem targetRefused_eq_false_of_tx (hv : v = 1 ∨ v = 3) (hid : id.toNat ≤ 252 ∨ (id = 254 ∧ i ≠ .ping ∧ i ≠ .read)) :
    targetRefused v p id (some i) = false := by
  have hlegal : v = 1 ∨ v = 2 ∨ v = 3 ∨ v = 7 := by rcases hv with rfl | rfl <;> decide
  have hreserved : id ≠ 253 ∧ id ≠ 255 := by bv_omega
  refine (targetRefused_eq_false_iff hlegal).mpr ⟨hreserved, fun h7 => ?_, fun _ h254 => ?_, fun h2 => ?_⟩
  · rcases hv with rfl | rfl <;> cases h7
  · rcases hid with hle | ⟨-, hping, hread⟩
    · subst h254; exact absurd hle (by decide)
    · simpa using ⟨hping, hread⟩
  · rcases hv with rfl | rfl <;> cases h2

theorem reservedId_eq_false_of_target (hid : id.toNat ≤ 252 ∨ id = 254) : reservedId id = false :=
  reservedId_eq_false (by bv_omega) (by bv_omega)

/-- `START RX` may be issued for every addressable device. -/
theorem targetRefused_two_eq_false (hid : id.toNat ≤ 252) (p : Proto) (i : Option WireInstr) :
    targetRefused 2 p id i = false :=
  (targetRefused_eq_false_iff (.inr (.inl rfl))).mpr
    ⟨⟨by bv_omega, by bv_omega⟩, fun h => absurd h (by decide), fun h => absurd h (by decide), fun _ => by bv_omega⟩

theorem targetRefused_seven_eq_false : targetRefused 7 .p2 254 (some .ping) = false := by decide

/-- `cur.rx` of a request that is not carried by `START COLLECT` (`43_sequencer.md` R209). -/
theorem receiveFollows_of_tx (hv : v = 1 ∨ v = 3) (id : Byte) (i : Option WireInstr) :
    receiveFollows v id i = (v == 3 && id != 254 && !neverReplies i) := by
  rcases hv with rfl | rfl
  · rfl
  · rfl

end Targets

/-! ## The START step after the latch -/

section Latched

variable {v : Word} {p : Proto} {id b : Byte} {i : WireInstr} {ps : List Byte} {s : State}

theorem latch_clearForStart (hv : v = 1 ∨ v = 2 ∨ v = 3) (p : Proto) (id : Byte) (s : State) :
    latch v p id (clearForStart s) = latchedRequest s p id := by
  rcases hv with rfl | rfl | rfl <;> rfl

/-- `START COLLECT` latches collect mode and clears the id map besides (`43_sequencer.md` R211). -/
theorem latch_collect_clearForStart (p : Proto) (id : Byte) (s : State) :
    latch 7 p id (clearForStart s) = { latchedRequest s p id with curCollect := true, idmap := 0, idcount := 0 } := rfl

/-- A completion in a phase that is `IDLE` already. -/
theorem complete_of_idle (hp : s.phase = .idle) (code : CommResult) :
    complete code s = { s with result := code, done := true, txq := [], rxbuf := [] } := by
  simp only [complete, hp]

/-- A request the checks allow, by `START TX` or `START TXRX`: the encoder decides. -/
theorem start_of_tx (hp : s.phase = .idle) (hv : v = 1 ∨ v = 3) (hb : instrOf s.cfg.opc b = some i)
    (hid : id.toNat ≤ 252 ∨ (id = 254 ∧ i ≠ .ping ∧ i ≠ .read)) :
    start v p id b ps s = transmit v p id b ps (latchedRequest s p id) := by
  have hlegal : legalCommand v = true := by rcases hv with rfl | rfl <;> rfl
  have htx : cmdTx v = true := by rcases hv with rfl | rfl <;> rfl
  have htarget : targetRefused v p id (instrOf s.cfg.opc b) = false := by rw [hb, targetRefused_eq_false_of_tx hv hid]
  rw [start_of_transmit hp hlegal htarget htx, latch_clearForStart (by tauto)]

/-- The same when the frame fits: it is queued after a flush. -/
theorem start_of_tx_frame (hp : s.phase = .idle) (hv : v = 1 ∨ v = 3) (hb : instrOf s.cfg.opc b = some i)
    (havail : avail p i = true) (hid : id.toNat ≤ 252 ∨ (id = 254 ∧ i ≠ .ping ∧ i ≠ .read))
    (hfit : frameLength p ps ≤ txMax s.cfg p) :
    start v p id b ps s =
      { latchedRequest s p id with
        out := s.out ++ [.flush]
        txq := frame s.cfg p id b ps
        curRx := v == 3 && id != 254 && !neverReplies (some i)
        phase := .tx } := by
  have hres : reservedId id = false := reservedId_eq_false_of_target (hid.imp_right And.left)
  have henc : encodeReq s.cfg p id b ps = .frame (frame s.cfg p id b ps) :=
    encodeReq_eq_frame_iff.mpr ⟨hres, ⟨i, hb, havail⟩, hfit, rfl⟩
  rw [start_of_tx hp hv hb hid, transmit_of_frame (s := latchedRequest s p id) henc, ← hb, ← receiveFollows_of_tx hv]
  rfl

/-- What the encoder refuses completes after a flush, nothing queued. -/
theorem complete_flush_latchedRequest (hp : s.phase = .idle) (code : CommResult) :
    complete code (emit .flush (latchedRequest s p id)) =
      { latchedRequest s p id with out := s.out ++ [.flush], result := code, done := true, txq := [] } :=
  complete_of_idle (s := emit .flush (latchedRequest s p id)) hp code

theorem start_of_rx (hp : s.phase = .idle) (hid : id.toNat ≤ 252) :
    start 2 p id b ps s = { latchedRequest s p id with curRx := true, elapsed := 0, phase := .rx } := by
  rw [start_of_harvest hp rfl (targetRefused_two_eq_false hid p _) rfl, latch_clearForStart (by tauto)]
  rfl

theorem start_of_collect (hp : s.phase = .idle) (hb : instrOf s.cfg.opc b = some .ping) :
    start 7 .p2 254 b ps s =
      transmit 7 .p2 254 b ps { latchedRequest s .p2 254 with curCollect := true, idmap := 0, idcount := 0 } := by
  rw [start_of_transmit hp rfl (by rw [hb, targetRefused_seven_eq_false]) rfl, latch_collect_clearForStart]

theorem start_of_collect_frame (hp : s.phase = .idle) (hb : instrOf s.cfg.opc b = some .ping)
    (hfit : frameLength .p2 ps ≤ s.cfg.txMax2) :
    start 7 .p2 254 b ps s =
      { latchedRequest s .p2 254 with
        curCollect := true
        idmap := 0
        idcount := 0
        out := s.out ++ [.flush]
        txq := frameP2 s.cfg 254 b ps
        curRx := true
        phase := .tx } := by
  have henc : encodeReq s.cfg .p2 254 b ps = .frame (frameP2 s.cfg 254 b ps) :=
    encodeReq_eq_frame_iff.mpr ⟨rfl, ⟨.ping, hb, rfl⟩, hfit, rfl⟩
  rw [start_of_collect hp hb, transmit_of_frame (by exact henc)]
  rfl

theorem encodeReq_eq_txError (hid : reservedId id = false) {c : Config} (hb : instrOf c.opc b = some i)
    (havail : avail p i = true) (hlong : frameLength p ps > txMax c p) : encodeReq c p id b ps = .txError := by
  simp [encodeReq, hid, hb, havail, hlong]

theorem encodeReq_eq_notAvailable (hid : reservedId id = false) {c : Config} (hb : instrOf c.opc b = some i)
    (havail : avail p i = false) : encodeReq c p id b ps = .notAvailable := by
  simp [encodeReq, hid, hb, havail]

end Latched

/-! ## Wire instructions (`44_instructions.md` R252 to R264) -/

section Wire

variable {p : Proto} {i : WireInstr} {id : Byte} {ps : List Byte} {s : State}

/-- A wire instruction is the START step on its own request. -/
theorem exec_ofRequest_eq_start (p : Proto) (i : WireInstr) (id : Byte) (ps : List Byte) (s : State) :
    exec (Instr.ofRequest p i id ps) s = .next (start s.cmd p id (opcByte s.cfg.opc i) ps s) := by
  rw [exec_ofRequest, carried_eq, carry]

theorem exec_ofRequest_queued (hc : configValid s.cfg) (hp : s.phase = .idle) (hcmd : s.cmd = 1 ∨ s.cmd = 3)
    (havail : avail p i = true) (hid : id.toNat ≤ 252 ∨ (id = 254 ∧ i ≠ .ping ∧ i ≠ .read))
    (hfit : frameLength p ps ≤ txMax s.cfg p) :
    exec (Instr.ofRequest p i id ps) s =
      .next { latchedRequest s p id with
        out := s.out ++ [.flush]
        txq := frame s.cfg p id (opcByte s.cfg.opc i) ps
        curRx := s.cmd == 3 && id != 254 && !neverReplies (some i)
        phase := .tx } := by
  rw [exec_ofRequest_eq_start, start_of_tx_frame hp hcmd (instrOf_opcByte_of_valid hc i) havail hid hfit]

end Wire

/-! ### The wire instructions by the response they get -/

/-- Ping and Read: only an addressable device may be asked (`44_instructions.md` R253, R254). -/
def queryForms : List (Proto × WireInstr) :=
  [(.p1, .ping), (.p1, .read), (.p2, .ping), (.p2, .read)]

/-- Available, answered, and allowed to the broadcast id (`44_instructions.md` R255 to R260, R262). -/
def answeredForms : List (Proto × WireInstr) :=
  [(.p1, .write), (.p1, .regWrite), (.p1, .action), (.p1, .factoryReset), (.p1, .bulkRead), (.p2, .write), (.p2, .regWrite),
    (.p2, .action), (.p2, .factoryReset), (.p2, .reboot), (.p2, .syncRead), (.p2, .bulkRead)]

/-- Available, never answered, and allowed to the broadcast id (`44_instructions.md` R261, R263). -/
def unansweredForms : List (Proto × WireInstr) :=
  [(.p1, .syncWrite), (.p2, .syncWrite), (.p2, .bulkWrite)]

theorem queryForms_available : ∀ r ∈ queryForms, avail r.1 r.2 = true ∧ neverReplies (some r.2) = false := by decide

theorem answeredForms_available :
    ∀ r ∈ answeredForms, avail r.1 r.2 = true ∧ neverReplies (some r.2) = false ∧ r.2 ≠ .ping ∧ r.2 ≠ .read := by decide

theorem unansweredForms_available :
    ∀ r ∈ unansweredForms, avail r.1 r.2 = true ∧ neverReplies (some r.2) = true ∧ r.2 ≠ .ping ∧ r.2 ≠ .read := by decide

theorem eq_ofRequest_of_mem_map {p : Proto} {i : WireInstr} {mk : Byte → List Byte → Instr} {forms : List (Proto × WireInstr)}
    (h : (p, i, mk) ∈ forms.map fun r => (r.1, r.2, Instr.ofRequest r.1 r.2)) :
    (p, i) ∈ forms ∧ mk = Instr.ofRequest p i := by
  obtain ⟨r, hr, heq⟩ := List.mem_map.mp h
  cases heq
  exact ⟨hr, rfl⟩

/-- Settles O19: an addressable id is not the broadcast id. -/
theorem pingAndReadStartTransmission : Obligations.PingAndReadStartTransmission := by
  intro proto i mk hmem s id params hc hp hcmd hid hfit
  obtain ⟨hform, rfl⟩ := eq_ofRequest_of_mem_map (forms := queryForms) hmem
  obtain ⟨havail, hreply⟩ := queryForms_available _ hform
  have hne : (id != 254) = true := bne_iff_ne.mpr (by bv_omega)
  rw [exec_ofRequest_queued hc hp hcmd havail (.inl hid) hfit, hne, hreply]
  simp only [Bool.not_false, Bool.and_true]

/-- Settles O20: twelve forms that are available and may go to the broadcast id, from which no response is awaited. -/
theorem answeredRequestsStartTransmission : Obligations.AnsweredRequestsStartTransmission := by
  intro proto i mk hmem s id params hc hp hcmd hid hfit
  obtain ⟨hform, rfl⟩ := eq_ofRequest_of_mem_map (forms := answeredForms) hmem
  obtain ⟨havail, hreply, hallowed⟩ := answeredForms_available _ hform
  rw [exec_ofRequest_queued hc hp hcmd havail (hid.imp_right fun h => ⟨h, hallowed⟩) hfit, hreply]
  simp only [Bool.not_false, Bool.and_true]

/-- Settles O21: three forms that are available, may go to the broadcast id, and never have a response. -/
theorem unansweredRequestsStartTransmission : Obligations.UnansweredRequestsStartTransmission := by
  intro proto i mk hmem s id params hc hp hcmd hid hfit
  obtain ⟨hform, rfl⟩ := eq_ofRequest_of_mem_map (forms := unansweredForms) hmem
  obtain ⟨havail, hreply, hallowed⟩ := unansweredForms_available _ hform
  rw [exec_ofRequest_queued hc hp hcmd havail (hid.imp_right fun h => ⟨h, hallowed⟩) hfit, hreply]
  simp only [Bool.not_true, Bool.and_false]

/-- Settles O22: the target checks pass, and the encoder finds the instruction not available. -/
theorem unavailableRequestsComplete : Obligations.UnavailableRequestsComplete := by
  intro proto mk hmem s id params hc hp hcmd h253 h255
  have hrow : ∃ i, mk = Instr.ofRequest proto i ∧ avail proto i = false ∧ i ≠ .ping ∧ i ≠ .read := by
    simp only [List.mem_cons, Prod.mk.injEq, List.not_mem_nil, or_false] at hmem
    rcases hmem with ⟨rfl, rfl⟩ | ⟨rfl, rfl⟩ | ⟨rfl, rfl⟩ | ⟨rfl, rfl⟩ | ⟨rfl, rfl⟩
    · exact ⟨.reboot, rfl, rfl, by decide⟩
    · exact ⟨.syncRead, rfl, rfl, by decide⟩
    · exact ⟨.bulkWrite, rfl, rfl, by decide⟩
    · exact ⟨.statusResponse, rfl, rfl, by decide⟩
    · exact ⟨.statusResponse, rfl, rfl, by decide⟩
  obtain ⟨i, rfl, havail, hping, hread⟩ := hrow
  have hid : id.toNat ≤ 252 ∨ (id = 254 ∧ i ≠ .ping ∧ i ≠ .read) := by
    by_cases h254 : id = 254
    · exact .inr ⟨h254, hping, hread⟩
    · exact .inl (by bv_omega)
  have hb := instrOf_opcByte_of_valid hc i
  have henc := encodeReq_eq_notAvailable (ps := params) (reservedId_eq_false h253 h255) hb havail
  rw [exec_ofRequest_eq_start, start_of_tx hp hcmd hb hid, transmit_of_notAvailable (s := latchedRequest s proto id) henc,
    complete_flush_latchedRequest hp]

/-- Settles O23: the target checks pass, and the encoder finds the frame too long, in collect mode too. -/
theorem oversizeRequestsCompleteWithTxError : Obligations.OversizeRequestsCompleteWithTxError := by
  refine ⟨fun proto i s id params hc havail hp hcmd hid hlong => ?_, fun s params hc hp hcmd hlong => ?_⟩
  · have hb := instrOf_opcByte_of_valid hc i
    have hres := reservedId_eq_false_of_target (hid.imp_right And.left)
    have henc := encodeReq_eq_txError hres hb havail hlong
    rw [exec_ofRequest_eq_start, start_of_tx hp hcmd hb hid, transmit_of_txError (s := latchedRequest s proto id) henc,
      complete_flush_latchedRequest hp]
  · have hb := instrOf_opcByte_of_valid hc .ping
    have henc := encodeReq_eq_txError (p := .p2) (id := 254) rfl hb rfl hlong
    have hexec := exec_ofRequest_eq_start .p2 .ping 254 params s
    rw [hcmd, start_of_collect hp hb, transmit_of_txError (by exact henc), complete_of_idle (by exact hp)] at hexec
    exact hexec

/-- Settles O24: the request passes every check, and collect mode clears the map in the latch. -/
theorem broadcastPingStartsCollecting : Obligations.BroadcastPingStartsCollecting := by
  intro s params hc hp hcmd hfit
  have hexec := exec_ofRequest_eq_start .p2 .ping 254 params s
  rw [hcmd, start_of_collect_frame hp (instrOf_opcByte_of_valid hc .ping) hfit] at hexec
  exact hexec

/-! ## START commands (`43_sequencer.md` R205, R210, R211) -/

section Commands

variable {s : State} {v : Word}

/-- A START that reads parameters runs on the registers, the model's own fields apart. -/
theorem startFetched_of_idle (hp : s.phase = .idle) (v : Word) :
    startFetched v s = .next (start v s.proto s.reqId s.reqInstr (requestParams s) (afterFetch v s)) := by
  rcases startFetched_cases v s with ⟨hbusy, -⟩ | ⟨-, e⟩
  · exact absurd hp hbusy
  · exact e

theorem startUnfetched_of_idle (hp : s.phase = .idle) (v : Word) :
    startUnfetched v s = .next (start v s.proto s.reqId s.reqInstr [] { s with cmd := v }) := by
  rcases startUnfetched_cases v s with ⟨hbusy, -⟩ | ⟨-, e⟩
  · exact absurd hp hbusy
  · exact e

theorem startFetched_of_tx_frame {i : WireInstr} (hp : s.phase = .idle) (hv : v = 1 ∨ v = 3)
    (hi : instrOf s.cfg.opc s.reqInstr = some i) (havail : avail s.proto i = true)
    (hid : s.reqId.toNat ≤ 252 ∨ (s.reqId = 254 ∧ i ≠ .ping ∧ i ≠ .read))
    (hfit : frameLength s.proto (requestParams s) ≤ txMax s.cfg s.proto) :
    startFetched v s =
      .next { latchedRequest s s.proto s.reqId with
        out := s.out ++ [.flush]
        txq := frame s.cfg s.proto s.reqId s.reqInstr (requestParams s)
        curRx := v == 3 && s.reqId != 254 && !neverReplies (some i)
        phase := .tx
        cmd := v
        free := s.free + s.reqPlen.toNat } := by
  rw [startFetched_of_idle hp, start_of_tx_frame (s := afterFetch v s) hp hv hi havail hid hfit]
  rfl

end Commands

/-- Settles O25: `START TX` awaits nothing, `START TXRX` what R209 says. -/
theorem startTransmitsTheRequest : Obligations.StartTransmitsTheRequest := by
  refine ⟨fun s i hp hi havail hid hfit => startFetched_of_tx_frame hp (.inl rfl) hi havail hid hfit,
    fun s i hp hi havail hid hfit => ?_⟩
  have hrx : decide (s.reqId ≠ 254 ∧ i ≠ .syncWrite ∧ i ≠ .bulkWrite) =
      ((3 : Word) == 3 && s.reqId != 254 && !neverReplies (some i)) := by
    rw [Bool.eq_iff_iff]
    cases i <;> simp [neverReplies]
  rw [hrx]
  exact startFetched_of_tx_frame hp (.inr rfl) hi havail hid hfit

/-- Settles O27: `START COLLECT` is the START step on the registers, which hold the broadcast ping. -/
theorem startCollectTransmitsTheBroadcastPing : Obligations.StartCollectTransmitsTheBroadcastPing := by
  intro s hp hproto hid hi hfit
  have hexec : exec .startCollect s = _ := startFetched_of_idle hp 7
  rw [hproto, hid, start_of_collect_frame (s := afterFetch 7 s) hp hi hfit] at hexec
  exact hexec

/-- Settles O28: the target check is the only one left, and no parameter is read. -/
theorem startRxReceivesWithoutFlush : Obligations.StartRxReceivesWithoutFlush := by
  refine ⟨fun s hp hid => ?_, fun s proto i id params hp hcmd hid => ?_⟩
  · have hexec : exec .startRx s = _ := startUnfetched_of_idle hp 2
    rw [start_of_rx (s := { s with cmd := 2 }) hp hid] at hexec
    exact hexec
  · rw [exec_ofRequest_eq_start, hcmd, start_of_rx hp hid]

/-- A START refused before the latch, in a phase that is `IDLE` already. -/
theorem complete_clearForStart {s : State} (hp : s.phase = .idle) :
    complete .notAvailable (clearForStart s) =
      { s with
        done := true, corruptSeen := false, idmissSeen := false, result := .notAvailable, txq := [], rxbuf := [] } :=
  complete_of_idle (s := clearForStart s) hp .notAvailable

/-- The refusals of R206 and R207 are the two checks before the latch. -/
theorem refused_iff {v : Word} {p : Proto} {id : Byte} {i : Option WireInstr} :
    (legalCommand v = false ∨ targetRefused v p id i = true) ↔
      (¬ (v = 1 ∨ v = 2 ∨ v = 3 ∨ v = 7) ∨ id = 253 ∨ id = 255 ∨
        (v = 7 ∧ ¬ (p = .p2 ∧ id = 254 ∧ i = some .ping)) ∨
        ((v = 1 ∨ v = 3) ∧ id = 254 ∧ (i = some .ping ∨ i = some .read)) ∨ (v = 2 ∧ id = 254)) := by
  by_cases hv : v = 1 ∨ v = 2 ∨ v = 3 ∨ v = 7
  · rw [legalCommand_iff.mpr hv, targetRefused_iff hv, or_assoc]
    simp only [Bool.true_eq_false, hv, not_true_eq_false, false_or]
  · rw [← legalCommand_iff, Bool.not_eq_true] at hv
    simp only [hv, ← legalCommand_iff, Bool.false_eq_true, not_false_eq_true, true_or]

/-- Settles O18: from the registers and as a wire instruction the same two checks refuse, and nothing was latched before. -/
theorem startsRefusedBeforeTheLatch : Obligations.StartsRefusedBeforeTheLatch := by
  refine ⟨fun s v es hevents hp href => ?_, fun s proto i id params hc hp href => ?_⟩
  · obtain ⟨ps, n, -, hstep⟩ := step_start_of_idle hevents hp
    refine ⟨_, hstep, ?_⟩
    rw [start_of_refused (s := carrying v n es s) hp (refused_iff.mpr href),
      complete_clearForStart (s := carrying v n es s) hp]
    rfl
  · rw [exec_ofRequest_eq_start, start_of_refused hp, complete_clearForStart hp]
    rw [refused_iff, instrOf_opcByte_of_valid hc i]
    simpa only [Option.some.injEq] using href

/-! ## The step that carries a command out -/

section Step

variable {s : State} {v : Word}

theorem leNat_leBytes (n v : Nat) : leNat (leBytes n v) = v % 256 ^ n := by
  induction n generalizing v with
  | zero => simp [leBytes, leNat, Nat.mod_one]
  | succ n ih =>
    simp only [leBytes, leNat, ih, lo8, BitVec.toNat_ofNat]
    exact (Nat.pow_succ' (m := 256) ▸ Nat.mod_mul).symm

theorem leBytes_length (n v : Nat) : (leBytes n v).length = n := by
  induction n generalizing v with
  | zero => rfl
  | succ n ih => rw [leBytes, List.length_cons, ih]

/-- The four bytes of a word decode as the word (log entry 11). -/
theorem decode_cmd_leBytes (c : Config) (v : Word) : decode c .cmd (leBytes 4 v.toNat) = decodeCmd v := by
  have hv : v.toNat % 256 ^ 4 = v.toNat := Nat.mod_eq_of_lt v.isLt
  rw [decode, leBytes_length, leNat_leBytes, hv, BitVec.ofNat_toNat, BitVec.setWidth_eq]
  rfl

theorem startEvent_eq_startFetched (hv : v = 1 ∨ v = 3 ∨ v = 7) (s : State) : startEvent v s = startFetched v s := by
  rcases hv with rfl | rfl | rfl <;> rfl

end Step

/-- Settles O29: the four bytes decode as the word does, and the event runs what the word decodes to. -/
theorem stepRunsTheDecodedCommand : Obligations.StepRunsTheDecodedCommand := by
  intro s v es i hevents hdec
  rw [decode_cmd_leBytes] at hdec
  rw [step_of_cmdWrite hevents, startEvent, hdec]

/-- Settles O30: `startFetched` carries the wire instruction the registers name. -/
theorem stepRunsTheRequestOfTheRegisters : Obligations.StepRunsTheRequestOfTheRegisters := by
  intro s v es i hevents hv hp hi
  have hreq : requestInstr { s with events := es } = some i := hi
  rw [step_of_cmdWrite hevents, startEvent_eq_startFetched hv, exec_ofRequest, startFetched, if_neg (not_not_intro hp), hreq]
  rfl

/-- Settles O31: the parameters are mapped from the indices below `PLEN`, each a buffer byte. -/
theorem requestParametersComeFromTxp : Obligations.RequestParametersComeFromTxp := by
  intro s
  refine ⟨by simp [requestParams], fun i hi => ?_⟩
  have hget : (requestParams s)[i]? = some (bufferByte s txpBase (txpCap s.cfg) i i) := by
    simp [requestParams, hi]
  rw [hget]
  refine ⟨fun b hcap hread => ?_, fun hcap => ?_⟩
  · have hread : s.mem.read? (txpBase + i) = some b := hread
    simp only [bufferByte, if_neg (Nat.not_le.mpr hcap), hread]
  · simp only [bufferByte, if_pos hcap]

end Sys2Proof.Machine

/-! What the events of the transport, the time base and Reset do, with the whole next state (`43_sequencer.md` R212 to R225,
`10_state.md` R48), and what illegal accesses do not (`20_memory.md` R62). -/

namespace Sys2Proof.Machine

section Transport

variable {s : State}

/-! ## The transmit phase (`43_sequencer.md` R212, R213) -/

theorem txAccept_of_cons {b : Byte} {rest : List Byte} (hp : s.phase = .tx) (hq : s.txq = b :: rest) :
    txAccept s =
      if rest ≠ [] then emit (.txByte b) { s with txq := rest }
      else if s.curRx then { emit (.txByte b) { s with txq := rest } with elapsed := 0, phase := .rx }
      else completeWith s.curId 0 [] (emit (.txByte b) { s with txq := rest }) := by
  simp only [txAccept, hp, hq]

theorem txAccept_of_not_presented (h : s.phase ≠ .tx ∨ s.txq = []) : txAccept s = s := by
  rcases txAccept_cases s with ⟨b, rest, hp, hq, -, -⟩ | ⟨b, hp, hq, -, -⟩ | ⟨b, hp, hq, -, -⟩ | ⟨-, e⟩
  · simp [hp, hq] at h
  · simp [hp, hq] at h
  · simp [hp, hq] at h
  · exact e

theorem txRefuse_of_ne_tx (hp : s.phase ≠ .tx) : txRefuse s = s := by
  rcases txRefuse_cases s with ⟨h, -⟩ | ⟨-, e⟩
  · exact absurd h hp
  · exact e

theorem txRefuse_of_tx (hp : s.phase = .tx) : txRefuse s = complete .txFail s := by
  simp only [txRefuse, hp]

/-! ## The tick (`43_sequencer.md` R225) -/

theorem tick_of_ne_rx (hp : s.phase ≠ .rx) : tick s = s := by
  rcases tick_cases s with ⟨h, -⟩ | ⟨h, -⟩ | ⟨h, -⟩ | ⟨-, e⟩
  · exact absurd h hp
  · exact absurd h hp
  · exact absurd h hp
  · exact e

theorem tick_of_rx (hp : s.phase = .rx) :
    tick s =
      if s.budget < satTW (s.elapsed.toNat + 1) then
        if s.curCollect ∧ 0 < s.idcount.toNat then
          completeWith s.curId 0 [] { s with elapsed := satTW (s.elapsed.toNat + 1) }
        else complete .rxTimeout { s with elapsed := satTW (s.elapsed.toNat + 1) }
      else { s with elapsed := satTW (s.elapsed.toNat + 1) } := by
  simp only [tick, hp]

/-! ## The receive loop (`43_sequencer.md` R215 to R219) -/

theorem rxByte_of_ne_rx (hp : s.phase ≠ .rx) (b : Byte) : rxByte b s = s := by
  rcases rxByte_cases b s with ⟨_, h, -⟩ | ⟨h, -⟩ | ⟨_, _, _, _, h, -⟩ | ⟨_, _, _, _, h, -⟩ | ⟨-, e⟩
  · exact absurd h hp
  · exact absurd h hp
  · exact absurd h hp
  · exact absurd h hp
  · exact e

variable {b : Byte} (hp : s.phase = .rx)

include hp

theorem rxByte_of_needMore {k : List Byte} (hs : scan s.cfg s.curProto (s.rxbuf ++ [b]) = .needMore k) :
    rxByte b s = { s with rxbuf := k } := by
  simp only [rxByte, hp, hs]

theorem rxByte_of_corrupt (hs : scan s.cfg s.curProto (s.rxbuf ++ [b]) = .corrupt) :
    rxByte b s = { s with rxbuf := [], corruptSeen := true } := by
  simp only [rxByte, hp, hs]

theorem rxByte_of_frame {id ie : Byte} {ps rest : List Byte}
    (hs : scan s.cfg s.curProto (s.rxbuf ++ [b]) = .frame id ie ps rest) :
    rxByte b s =
      if s.curCollect then collectFrame id (statusView s.cfg s.curProto ie ps) { s with rxbuf := rest }
      else responseFrame id (statusView s.cfg s.curProto ie ps) { s with rxbuf := rest } := by
  simp only [rxByte, hp, hs]

end Transport

/-- Settles O32: one of the three outcomes of `TxAccept`, and the only one of `TxRefuse`. -/
theorem transmitEventsFollowTheRules : Obligations.TransmitEventsFollowTheRules := by
  refine ⟨fun s b rest es hevents hp hq => ?_, fun s es hevents hp => ?_⟩
  · rw [step_of_events hevents]
    simp only [perform]
    rw [txAccept_of_cons (s := { s with events := es }) hp hq]
    by_cases hrest : rest = []
    · subst hrest
      cases hrx : s.curRx <;> simp only [ne_eq, not_true_eq_false, if_false, if_true, Bool.false_eq_true] <;> rfl
    · simp only [ne_eq, hrest, not_false_eq_true, if_true]
      rfl
  · rw [step_of_events hevents]
    simp only [perform]
    rw [txRefuse_of_tx (s := { s with events := es }) hp]
    rfl

/-- Settles O33: the tick counts; above the budget, what was collected decides the result. -/
theorem tickFollowsTheRule : Obligations.TickFollowsTheRule := by
  intro s es hevents
  rw [step_of_events hevents]
  simp only [perform]
  refine ⟨fun hp => by rw [tick_of_ne_rx (s := { s with events := es }) hp], fun hp => ?_⟩
  refine ⟨satTW (s.elapsed.toNat + 1), toNat_satTW _, ?_⟩
  rw [tick_of_rx (s := { s with events := es }) hp]
  simp only [← BitVec.lt_def, ← BitVec.not_lt, ← BitVec.le_def]
  refine ⟨fun hin => by rw [if_neg hin], fun hover hcol hids => ?_, fun hover hnone => ?_⟩
  · rw [if_pos hover, if_pos ⟨hcol, hids⟩]
    rfl
  · have hno : ¬ (s.curCollect = true ∧ 0 < s.idcount.toNat) := by
      rintro ⟨hcol, hids⟩
      rcases hnone with h | h
      · simp [h] at hcol
      · simp [h] at hids
    rw [if_pos hover, if_neg hno]
    rfl

/-- Settles O34: by the scanner's verdict, and for a frame by collect mode, the id and the status view. -/
theorem receivedByteFollowsTheVerdict : Obligations.ReceivedByteFollowsTheVerdict := by
  intro s b es hevents
  rw [step_of_events hevents]
  simp only [perform]
  refine ⟨fun hp => by rw [rxByte_of_ne_rx (s := { s with events := es }) hp], fun hp => ⟨fun k hs => ?_, fun hs => ?_, ?_⟩⟩
  · rw [rxByte_of_needMore (s := { s with events := es }) hp hs]
  · rw [rxByte_of_corrupt (s := { s with events := es }) hp hs]
  intro id ie params rest hs
  rw [rxByte_of_frame (s := { s with events := es }) hp hs]
  refine ⟨fun st hcol hview hid => ?_, fun hcol hmiss => ?_, fun hcol hview hid => ?_, fun hcol hmiss => ?_⟩
  · rw [if_neg (by simp [hcol])]
    simp only [hview, responseFrame, if_pos hid]
    rfl
  · rw [if_neg (by simp [hcol])]
    rcases responseFrame_cases id (statusView s.cfg s.curProto ie params) { s with events := es, rxbuf := rest } with
      ⟨st, hview, hid, -⟩ | ⟨-, e⟩
    · rcases hmiss with h | h
      · cases h.symm.trans hview
      · exact absurd hid h
    · exact congrArg _ e
  · obtain ⟨st, hview⟩ := hview
    rw [if_pos hcol]
    have hrec := getLsbD_recordId id { s with events := es, rxbuf := rest }
    refine ⟨_, _, hrec, rfl, ?_⟩
    rw [collectFrame, if_pos ⟨by simp [hview], addressableId_iff.mpr hid⟩]
    rfl
  · rw [if_pos hcol, collectFrame, if_neg]
    rintro ⟨hview, hid⟩
    rcases hmiss with h | h
    · simp [h] at hview
    · exact absurd (addressableId_iff.mp hid) (by omega)

/-- Settles O39: every register of `State.reset`, the model's own fields kept. -/
theorem resetEventLeavesTheResetValues : Obligations.ResetEventLeavesTheResetValues := by
  intro s es hevents
  refine ⟨resetEvent { s with events := es }, step_of_events hevents, ⟨rfl, rfl⟩, ⟨rfl, rfl, rfl, rfl⟩,
    ⟨rfl, rfl, rfl, rfl, rfl, rfl, rfl⟩, ⟨rfl, rfl, rfl, rfl, rfl, rfl⟩, ⟨rfl, rfl, rfl, rfl, rfl⟩,
    ⟨rfl, rfl, rfl, rfl⟩, fun _ => rfl, rfl, rfl, rfl⟩

/-! ## Illegal accesses (`20_memory.md` R62) -/

section Illegal

variable {a n : Nat}

theorem accessTarget_eq_none (h : (a < 0x10000 ∧ ¬ (n = 4 ∧ a % 4 = 0)) ∨ (0x10000 ≤ a ∧ ¬ (n = 1 ∨ n = 2 ∨ n = 4)) ∨
    (a < 0x10000 + 0x10000 ∧ 0x10000 ≤ a ∧ 0x20000 < a + n) ∨ (0x20000 ≤ a ∧ 0x30000 < a + n)) :
    accessTarget a n = none := by
  unfold accessTarget
  split_ifs <;> first | rfl | omega

/-- A host write that is no START is `hostWrite`. -/
theorem step_of_hostWrite {s : State} {v : Word} {es : List Event} (h : s.events = .hostWrite a n v :: es)
    (hcmd : ¬ (a = 0x08 ∧ n = 4)) : step s = .next (hostWrite a n v { s with events := es }) := by
  rw [step_of_events h]
  exact if_neg hcmd

end Illegal

/-- Settles O42: an illegal access reaches no target. -/
theorem illegalAccessesHaveNoEffect : Obligations.IllegalAccessesHaveNoEffect := by
  intro s a n v es _ hillegal
  have hnone := accessTarget_eq_none hillegal
  refine ⟨fun hevents => ?_, fun hevents => ⟨_, step_of_events hevents, ?_⟩⟩
  · rw [step_of_hostWrite hevents (by omega), hostWrite, hnone]
  · simp only [hostRead, readValue, hnone]

end Sys2Proof.Machine

/-! The host port (`10_state.md` R23 to R35, `20_memory.md` R62 to R68): what every register reads and takes, and the two
buffers, byte by byte. -/

namespace Sys2Proof.Machine

/-! ## Runs of the schedule -/

section Run

variable {s t : State} {e : Event} {es : List Event}

@[simp] theorem run_zero (s : State) : run 0 s = .next s := rfl

theorem run_succ_of_step (h : step s = .next t) (k : Nat) : run (k + 1) s = run k t := by
  simp only [run, h]

theorem run_succ_of_perform (hs : s.events = e :: es) (h : perform e { s with events := es } = .next t) (k : Nat) :
    run (k + 1) s = run k t :=
  run_succ_of_step ((step_of_events hs).trans h) k

/-- A run can be made in two parts. -/
theorem run_add {j : Nat} (h : run j s = .next t) (k : Nat) : run (j + k) s = run k t := by
  induction j generalizing s with
  | zero =>
    cases h
    rw [Nat.zero_add]
  | succ j ih =>
    obtain ⟨u, hu⟩ : ∃ u, step s = .next u := everyStepAnswersANextState.1 s
    rw [run_succ_of_step hu] at h
    rw [Nat.succ_add, run_succ_of_step hu, ih h]

end Run

/-! ## Words by their fields -/

section Words

theorem toNat_append_append (a : Half) (b c : Byte) :
    (a ++ b ++ c).toNat = c.toNat + 256 * b.toNat + 65536 * a.toNat := by
  rw [BitVec.toNat_append, BitVec.toNat_append, ← Nat.shiftLeft_add_eq_or_of_lt c.isLt,
    ← Nat.shiftLeft_add_eq_or_of_lt b.isLt]
  omega

theorem and_allOnes_eq (v : Word) : v &&& 0xFFFFFFFF = v := BitVec.and_allOnes

/-- A word is its three fields put together again. -/
theorem fields_append (v : Word) : v.extractLsb' 16 16 ++ v.extractLsb' 8 8 ++ v.extractLsb' 0 8 = v := by
  have hv := v.isLt
  refine BitVec.eq_of_toNat_eq ?_
  simp only [toNat_append_append, BitVec.extractLsb'_toNat, Nat.shiftRight_eq_div_pow]
  omega

theorem low_half_eq_and (v : Word) : (v.extractLsb' 0 16).setWidth 32 = v &&& 0xFFFF := by
  have hmask : v.toNat &&& 0xFFFF = v.toNat % 2 ^ 16 := Nat.and_two_pow_sub_one_eq_mod v.toNat 16
  have hlit : (0xFFFF : Word).toNat = 0xFFFF := rfl
  refine BitVec.eq_of_toNat_eq ?_
  rw [BitVec.toNat_and, hlit, hmask, BitVec.toNat_setWidth, BitVec.extractLsb'_toNat, Nat.shiftRight_zero]
  omega

/-- The two bits of `CTRL`. -/
theorem ctrl_bits_eq_and (v : Word) :
    (0 : BitVec 30) ++ BitVec.ofBool (v.getLsbD 1) ++ BitVec.ofBool (v.getLsbD 0) = v &&& 3 := by
  have hmask (i : Nat) (hi : i < 32) : (3 : Word).getLsbD i = decide (i < 2) := by
    revert i
    decide
  ext i hi
  simp only [← BitVec.getLsbD_eq_getElem, BitVec.getLsbD_append, BitVec.getLsbD_and, hmask i hi, BitVec.getLsbD_ofBool]
  match i with
  | 0 => simp
  | 1 => simp
  | i + 2 => simp

theorem statusWord_toNat (s : State) : (statusWord s).toNat =
    (if s.phase = .idle then 0 else 1) + (if s.done then 2 else 0) + (if s.busyReject then 4 else 0) +
      (if s.corruptSeen then 8 else 0) + (if s.idmissSeen then 16 else 0) +
      32 * (match s.phase with | .idle => 0 | .tx => 1 | .rx => 2) := by
  rw [statusWord, busy]
  generalize s.done = d, s.busyReject = r, s.corruptSeen = c, s.idmissSeen = m, s.phase = p
  revert d r c m
  cases p <;> decide

end Words

/-! ## Registers (`10_state.md` R23 to R35) -/

section Registers

variable {s : State} {a : Nat} {v : Word} {es : List Event}

theorem accessTarget_reg (ha : a < 0x10000) (hal : a % 4 = 0) : accessTarget a 4 = some (.reg a) := by
  rw [accessTarget, if_pos ha, if_pos ⟨rfl, hal⟩]

theorem readValue_of_regAt {r : Reg} (ha : a < 0x10000) (hal : a % 4 = 0) (hr : regAt a = some r) (s : State) :
    readValue s a 4 = readReg s r := by
  simp only [readValue, accessTarget_reg ha hal, hr]

theorem readValue_of_regAt_eq_none (ha : a < 0x10000) (hal : a % 4 = 0) (hr : regAt a = none) (s : State) :
    readValue s a 4 = 0 := by
  simp only [readValue, accessTarget_reg ha hal, hr]

theorem regAt_idmap (hlo : 0x40 ≤ a) (hhi : a ≤ 0x5C) (hal : a % 4 = 0) : regAt a = some (.idmap ((a - 0x40) / 4)) := by
  unfold regAt
  iterate 13 rw [if_neg (by omega)]
  rw [if_pos ⟨hlo, hhi, hal⟩]

theorem regAt_eq_none (h : (0x30 < a ∧ a < 0x40) ∨ 0x5C < a) : regAt a = none := by
  unfold regAt
  iterate 14 rw [if_neg (by omega)]

/-- Writing what the host may write back and reading it again masks the value. -/
theorem run_write_read {r : Reg} {mask : Word} (hr : regAt a = some r) (ha : a < 0x10000) (hal : a % 4 = 0) (hcmd : a ≠ 0x08)
    (hmask : ∀ s : State, readReg (writeReg r v s) r = v &&& mask)
    (hevents : s.events = .hostWrite a 4 v :: .hostRead a 4 :: es) :
    ∃ t, run 2 s = .next t ∧ t.rdata = v &&& mask ∧ t.events = es := by
  have hwrite (u : State) : hostWrite a 4 v u = writeReg r v u := by simp only [hostWrite, accessTarget_reg ha hal, hr]
  have hstep := (step_of_hostWrite hevents (fun h => hcmd h.1)).trans (congrArg _ (hwrite _))
  have hrest : (writeReg r v { s with events := .hostRead a 4 :: es }).events = .hostRead a 4 :: es := by cases r <;> rfl
  refine ⟨_, (run_succ_of_step hstep 1).trans (run_succ_of_perform hrest rfl 0), ?_, rfl⟩
  have hread (u : State) : readValue { writeReg r v u with events := es } a 4 = readReg (writeReg r v u) r := by
    rw [readValue_of_regAt ha hal hr]
    cases r <;> rfl
  simp only [hostRead_rdata, hread, hmask]

/-- Where the value written has a 1 the flag is cleared, elsewhere kept. -/
theorem and_not_eq_ite (flag bit : Bool) : (flag && !bit) = if bit then false else flag := by cases bit <;> simp

theorem readReg_writeReg_ctrl (v : Word) (s : State) : readReg (writeReg .ctrl v s) .ctrl = v &&& 3 := by
  rw [← ctrl_bits_eq_and]
  simp only [readReg, ctrlWord, writeReg]
  cases v.getLsbD 0 <;> rfl

end Registers

/-- Settles O40: each writable register by its fields, `STATUS` by its two acknowledged bits, every other register by
`writeReg` leaving the state alone. -/
theorem registerWritesFollowTheMap : Obligations.RegisterWritesFollowTheMap := by
  refine ⟨fun p hp s v es hevents => ?_, fun s v es => ?_, fun s a v es ha hnot hevents => ?_, fun s v es hevents => ?_⟩
  · simp only [List.mem_cons, List.not_mem_nil, or_false] at hp
    rcases hp with rfl | rfl | rfl | rfl | rfl | rfl
    · exact run_write_read (r := .ctrl) rfl (by decide) rfl (by decide) (readReg_writeReg_ctrl v) hevents
    · exact run_write_read (r := .reqHdr) rfl (by decide) rfl (by decide)
        (fun _ => (fields_append v).trans (and_allOnes_eq v).symm) hevents
    · exact run_write_read (r := .reqRxlen) rfl (by decide) rfl (by decide) (fun _ => low_half_eq_and v) hevents
    · exact run_write_read (r := .tLat) rfl (by decide) rfl (by decide) (fun _ => (and_allOnes_eq v).symm) hevents
    · exact run_write_read (r := .tByte) rfl (by decide) rfl (by decide) (fun _ => low_half_eq_and v) hevents
    · exact run_write_read (r := .tSlack) rfl (by decide) rfl (by decide) (fun _ => (and_allOnes_eq v).symm) hevents
  · refine ⟨fun h => ?_, fun h => ?_, fun h => ?_, fun h => ?_, fun h => ?_, fun h => ?_⟩ <;>
      exact step_of_hostWrite h (by decide)
  · have hcmd : ¬ (a = 0x08 ∧ 4 = 4) := fun h => hnot (by simp [h.1])
    rw [step_of_hostWrite hevents hcmd]
    rcases hostWrite_targets a 4 v with ⟨r, -, -, hr, e⟩ | ⟨i, rfl, -⟩ | e
    · obtain rfl := eq_offset_of_regAt hr
      cases r with
      | result | resHdr | budget | elapsed | idcount | idmap => exact congrArg _ (e _)
      | _ => exact absurd (by decide) hnot
    · simp [txpBase] at ha
    · exact congrArg _ (e _)
  · rw [step_of_hostWrite hevents (by decide)]
    show Host.Outcome.next (acknowledge v { s with events := es }) = _
    rw [acknowledge, and_not_eq_ite, and_not_eq_ite]

/-- Settles O43: the value is that of the register at the offset, field by field. -/
theorem registerReadsFollowTheMap : Obligations.RegisterReadsFollowTheMap := by
  intro s a es hevents ha hal
  refine ⟨readValue { s with events := es } a 4, step_of_events hevents, ?_⟩
  refine ⟨?_, ?_, ?_, ?_, ?_, ?_, ?_, ?_, ?_, ?_, ?_, ?_, fun hlo hhi j hj => ?_, fun hother => ?_⟩
  · rintro rfl
    show (ctrlWord s).toNat = _
    rw [ctrlWord]
    cases s.proto <;> cases s.irqEn <;> rfl
  · rintro rfl
    exact statusWord_toNat s
  · rintro rfl
    exact toNat_append_append s.reqPlen s.reqInstr s.reqId
  · rintro rfl
    exact BitVec.toNat_setWidth_of_le (by decide)
  · rintro rfl
    rfl
  · rintro rfl
    exact BitVec.toNat_setWidth_of_le (by decide)
  · rintro rfl
    rfl
  · rintro rfl
    show ((resultCode s.result).setWidth 32).toNat = _
    cases s.result <;> rfl
  · rintro rfl
    exact toNat_append_append s.resPlen s.resErr s.resId
  · rintro rfl
    rfl
  · rintro rfl
    rfl
  · rintro rfl
    exact BitVec.toNat_setWidth_of_le (by decide)
  · have hv := readValue_of_regAt ha hal (regAt_idmap hlo hhi hal) { s with events := es }
    have hbit : 32 * ((a - 0x40) / 4) + j = 8 * (a - 0x40) + j := by omega
    simp [hv, readReg, hj, hbit]
  · rcases hother with rfl | hrange
    · rfl
    · exact readValue_of_regAt_eq_none ha hal (regAt_eq_none hrange) _

/-! ## Little-endian bytes (`20_memory.md` R63, R64) -/

section LittleEndian

theorem leNat_lt (l : List Byte) : leNat l < 256 ^ l.length := by
  induction l with
  | nil => exact Nat.one_pos
  | cons b l ih =>
    have hb : b.toNat < 256 := b.isLt
    rw [leNat, List.length_cons, Nat.pow_succ]
    omega

theorem leNat_digit (l : List Byte) {k : Nat} (h : k < l.length) : leNat l / 256 ^ k % 256 = l[k].toNat := by
  induction l generalizing k with
  | nil => cases h
  | cons b l ih =>
    have hb : b.toNat < 256 := b.isLt
    cases k with
    | zero => simp [leNat]; omega
    | succ k =>
      rw [leNat, Nat.pow_succ', ← Nat.div_div_eq_div_mul, Nat.add_mul_div_left _ _ (by decide), Nat.div_eq_of_lt hb,
        Nat.zero_add, ih (Nat.lt_of_succ_lt_succ h), List.getElem_cons_succ]

/-- A word holds up to four bytes. -/
theorem toNat_ofNat_leNat {l : List Byte} (hl : l.length ≤ 4) : (BitVec.ofNat 32 (leNat l)).toNat = leNat l := by
  have hpow : 256 ^ l.length ≤ 256 ^ 4 := Nat.pow_le_pow_right (by decide) hl
  have hlt := leNat_lt l
  rw [BitVec.toNat_ofNat]
  exact Nat.mod_eq_of_lt (by omega)

theorem extractLsb'_ofNat_leNat {l : List Byte} (hl : l.length ≤ 4) {k : Nat} (h : k < l.length) :
    (BitVec.ofNat 32 (leNat l)).extractLsb' (8 * k) 8 = l[k] := by
  refine BitVec.eq_of_toNat_eq ?_
  rw [BitVec.extractLsb'_toNat, toNat_ofNat_leNat hl, Nat.shiftRight_eq_div_pow, Nat.pow_mul]
  exact leNat_digit l h

theorem getElem_leBytes (n v : Nat) {k : Nat} (h : k < (leBytes n v).length) :
    (leBytes n v)[k] = BitVec.ofNat 8 (v / 256 ^ k) := by
  induction n generalizing v k with
  | zero => cases h
  | succ n ih =>
    cases k with
    | zero => simp [leBytes, lo8]
    | succ k =>
      simp only [leBytes, List.getElem_cons_succ, ih]
      rw [Nat.div_div_eq_div_mul, Nat.pow_succ']

theorem getElem_leBytes_word (n : Nat) (v : Word) {k : Nat} (h : k < (leBytes n v.toNat).length) :
    (leBytes n v.toNat)[k] = v.extractLsb' (8 * k) 8 := by
  refine BitVec.eq_of_toNat_eq ?_
  rw [getElem_leBytes, BitVec.extractLsb'_toNat, BitVec.toNat_ofNat, Nat.shiftRight_eq_div_pow, Nat.pow_mul]

end LittleEndian

/-! ## The buffers (`10_state.md` R33, R34, `20_memory.md` R62 to R68) -/

section Buffers

variable {s : State} {i n base cap k : Nat} {v : Word} {es : List Event}

theorem accessTarget_txp (hn : n = 1 ∨ n = 2 ∨ n = 4) (hin : i + n ≤ 0x10000) :
    accessTarget (0x10000 + i) n = some (.txp i) := by
  rw [accessTarget, if_neg (by omega), if_pos hn, if_pos (by omega), if_pos (by omega), Nat.add_sub_cancel_left]

theorem accessTarget_rxp (hn : n = 1 ∨ n = 2 ∨ n = 4) (hin : i + n ≤ 0x10000) :
    accessTarget (0x20000 + i) n = some (.rxp i) := by
  rw [accessTarget, if_neg (by omega), if_pos hn, if_neg (by omega), if_pos (by omega), if_pos (by omega),
    Nat.add_sub_cancel_left]

theorem bufferByte_beyond (h : cap ≤ i) : bufferByte s base cap i k = 0 := if_pos h

theorem bufferByte_written {b : Byte} (h : i < cap) (hr : s.mem.read? (base + i) = some b) :
    bufferByte s base cap i k = b := by
  simp only [bufferByte, if_neg (Nat.not_le.mpr h), hr]

theorem bufferBytes_length (s : State) (base cap i n : Nat) : (bufferBytes s base cap i n).length = n := by
  simp [bufferBytes]

/-- Where all bytes asked for are written they are what a read gives. -/
theorem bufferBytes_eq {bs : List Byte} (hin : i + bs.length ≤ cap)
    (hread : ∀ k (h : k < bs.length), s.mem.read? (base + (i + k)) = some bs[k]) :
    bufferBytes s base cap i bs.length = bs := by
  refine List.ext_getElem (bufferBytes_length ..) fun k _ hk => ?_
  simp only [bufferBytes, List.getElem_map, List.getElem_range]
  exact bufferByte_written (by omega) (hread k hk)

/-- A `TXP` write stops at the capacity. -/
theorem step_txpWrite (hn : n = 1 ∨ n = 2 ∨ n = 4) (hin : i + n ≤ 0x10000)
    (hevents : s.events = .hostWrite (0x10000 + i) n v :: es) :
    step s = .next { s with
      events := es, mem := s.mem.writeList (0x10000 + i) ((leBytes n v.toNat).take (txpCap s.cfg - i)) } := by
  rw [step_of_hostWrite hevents (by omega), hostWrite, accessTarget_txp hn hin]
  rfl

theorem readValue_txp (hn : n = 1 ∨ n = 2 ∨ n = 4) (hin : i + n ≤ 0x10000) (s : State) :
    readValue s (0x10000 + i) n = BitVec.ofNat 32 (leNat (bufferBytes s 0x10000 (txpCap s.cfg) i n)) := by
  simp only [readValue, accessTarget_txp hn hin]
  rfl

theorem readValue_rxp (hn : n = 1 ∨ n = 2 ∨ n = 4) (hin : i + n ≤ 0x10000) (s : State) :
    readValue s (0x20000 + i) n = BitVec.ofNat 32 (leNat (bufferBytes s 0x20000 (rxpCap s.cfg) i n)) := by
  simp only [readValue, accessTarget_rxp hn hin]
  rfl

/-- The bytes a cut write leaves alone. -/
theorem Memory.read?_writeList_take (m : Memory) {base i cap a : Nat} (bs : List Byte)
    (h : a < base + i ∨ base + i + bs.length ≤ a ∨ base + cap ≤ a) :
    (m.writeList (base + i) (bs.take (cap - i))).read? a = m.read? a := by
  have hlen : (bs.take (cap - i)).length ≤ cap - i := by simp
  have hlen' : (bs.take (cap - i)).length ≤ bs.length := by simp
  by_cases hlow : a < base + i
  · exact Memory.read?_writeList_below m _ hlow
  · exact Memory.read?_writeList_above m _ (by omega)

end Buffers

/-- Settles O41: bytes are stored and read index by index, and the value is theirs little-endian. -/
theorem bufferAccessesAreLittleEndian : Obligations.BufferAccessesAreLittleEndian := by
  refine ⟨fun s i n v es hn hin hevents => ?_, fun s i n v es hn hcap hin hevents => ?_,
    fun s base cap i n es hbase hn hin hevents => ?_, fun s i n v es hi hevents => ?_⟩
  · refine ⟨_, step_txpWrite hn hin hevents, fun k hk hcap => ?_, fun a ha => ?_⟩
    · have hlen : k < ((leBytes n v.toNat).take (txpCap s.cfg - i)).length := by
        rw [List.length_take, leBytes_length]; omega
      rw [Memory.read?_writeList _ _ _ hlen, List.getElem_take, getElem_leBytes_word]
    · exact Memory.read?_writeList_take _ _ (by rwa [leBytes_length])
  · have htake : (leBytes n v.toNat).take (txpCap s.cfg - i) = leBytes n v.toNat :=
      List.take_of_length_le (by rw [leBytes_length]; omega)
    have hwrite := step_txpWrite hn hin hevents
    rw [htake] at hwrite
    refine ⟨_, (run_succ_of_step hwrite 1).trans (run_succ_of_perform rfl rfl 0), ?_, fun a ha => ?_⟩
    · have hlen := leBytes_length n v.toNat
      have hback (u : State) (hu : u.mem = s.mem.writeList (0x10000 + i) (leBytes n v.toNat)) (hcfg : u.cfg = s.cfg) :
          (readValue u (0x10000 + i) n).toNat = v.toNat % 256 ^ n := by
        have hbytes : bufferBytes u 0x10000 (txpCap u.cfg) i (leBytes n v.toNat).length = leBytes n v.toNat := by
          refine bufferBytes_eq (by rw [hcfg, hlen]; exact hcap) fun k hk => ?_
          rw [hu, ← Nat.add_assoc, Memory.read?_writeList _ _ _ hk]
        rw [hlen] at hbytes
        rw [readValue_txp hn hin, hbytes, toNat_ofNat_leNat (by omega), leNat_leBytes]
      exact hback _ rfl rfl
    · have h := Memory.read?_writeList_take (cap := i + n) s.mem (base := 0x10000) (i := i) (a := a) (leBytes n v.toNat)
        (by rw [leBytes_length]; omega)
      rw [Nat.add_sub_cancel_left, List.take_of_length_le (by rw [leBytes_length])] at h
      exact h
  · have hval : readValue { s with events := es } (base + i) n =
        BitVec.ofNat 32 (leNat (bufferBytes { s with events := es } base cap i n)) := by
      rcases hbase with ⟨rfl, rfl⟩ | ⟨rfl, rfl⟩
      · exact readValue_txp hn hin _
      · exact readValue_rxp hn hin _
    have hlen := bufferBytes_length { s with events := es } base cap i n
    refine ⟨readValue { s with events := es } (base + i) n, step_of_events hevents, ?_, fun k hk => ?_⟩
    · rw [hval, toNat_ofNat_leNat (by omega)]
      exact (leNat_lt _).trans_eq (congrArg _ hlen)
    · rw [hval, extractLsb'_ofNat_leNat (by omega) (by omega)]
      simp only [bufferBytes, List.getElem_map, List.getElem_range]
      refine ⟨bufferByte_beyond, fun b hcap hread => bufferByte_written hcap ?_⟩
      rw [← Nat.add_assoc]
      exact hread
  · rw [step_of_hostWrite hevents (by omega)]
    rcases hostWrite_targets (0x20000 + i) n v with ⟨_, -, hlt, -⟩ | ⟨j, hj, hpos, hin, -⟩ | e
    · omega
    · simp only [txpBase] at hj
      omega
    · exact congrArg _ (e _)

end Sys2Proof.Machine

/-! What can change what (`10_state.md` R31, R38, R46, `43_sequencer.md` R203, `60_exceptions.md` R310 to R323): the phase, the
outputs, the five flags, the interrupt, the request registers and the result registers, each by the table of `Performs`. -/

namespace Sys2Proof.Machine

/-! ## Kinds of events -/

/-- The host writes a value to `CMD`. -/
def IsStart (e : Event) : Prop := ∃ v, e = .hostWrite 0x08 4 v

/-- An event of the transport or the time base. -/
def IsTransport (e : Event) : Prop := e = .txAccept ∨ e = .txRefuse ∨ e = .tick ∨ ∃ b, e = .rxByte b

/-- The state after a completion (`60_exceptions.md` R320). -/
def Completed (t : State) : Prop := t.done = true ∧ t.phase = .idle ∧ t.txq = [] ∧ t.rxbuf = [] ∧ t.result ≠ .none

section Events

variable {s t : State} {e : Event}

theorem isTransport_txAccept : IsTransport .txAccept := .inl rfl
theorem isTransport_txRefuse : IsTransport .txRefuse := .inr (.inl rfl)
theorem isTransport_tick : IsTransport .tick := .inr (.inr (.inl rfl))
theorem isTransport_rxByte (b : Byte) : IsTransport (.rxByte b) := .inr (.inr (.inr ⟨b, rfl⟩))

theorem completed_complete {code : CommResult} (h : code ≠ .none) (s : State) : Completed (complete code s) :=
  ⟨rfl, rfl, rfl, rfl, h⟩

/-! ## The phase (`43_sequencer.md` R203) -/

theorem ne_zero_iff_pos {b : Byte} : b ≠ 0 ↔ 0 < b.toNat := by bv_omega

/-- Settles O52: the outcomes that change the phase, each one row of R203; the others contradict the change. -/
theorem phaseChangesOnlyByTheTable : Obligations.PhaseChangesOnlyByTheTable := by
  intro s t e es hevents ht hne
  have hp := step_performs hevents ht
  cases hp with
  | reset => exact .inl ⟨rfl, rfl, rfl, rfl⟩
  | startQueued v n f hidle hv hadm henc =>
    obtain ⟨-, ⟨i, hi, havail⟩, hfit, -⟩ := encodeReq_eq_frame_iff.mp henc
    obtain ⟨⟨h253, h255⟩, hcollect, hunique, -⟩ := (targetRefused_eq_false_iff hadm.legal).mp hadm.2
    refine .inr (.inl ⟨hidle, rfl, rfl, rfl, v, i, rfl, hv, hi, havail, h253, h255, fun h7 => ?_, fun h7 hid => ?_, hfit⟩)
    · obtain ⟨hproto, hid, hping⟩ := hcollect h7
      exact ⟨hproto, hid, Option.some.inj (hi.symm.trans hping)⟩
    · have hv13 : v = 1 ∨ v = 3 := by tauto
      obtain ⟨hping, hread⟩ := hunique hv13 hid
      exact ⟨fun h => hping (hi.trans (congrArg some h)), fun h => hread (hi.trans (congrArg some h))⟩
  | startReceives n hidle hadm =>
    exact .inr (.inr (.inl ⟨hidle, rfl, rfl, rfl, rfl, addressableId_iff.mp hadm.addressable_of_receive, rfl⟩))
  | frameSentAwaiting b htx hq hrx =>
    exact .inr (.inr (.inr (.inl ⟨htx, rfl, rfl, rfl, rfl, congrArg List.length hq, hrx, rfl⟩)))
  | frameSent b htx hq hrx =>
    exact .inr (.inr (.inr (.inr (.inl ⟨htx, rfl, rfl, congrArg List.length hq, hrx, rfl, rfl⟩))))
  | refused htx => exact .inr (.inr (.inr (.inr (.inr (.inl ⟨htx, rfl, rfl, rfl, rfl⟩)))))
  | responseAccepted b ie ps rest st hrx hcol hscan hview =>
    exact .inr (.inr (.inr (.inr (.inr (.inr (.inl
      ⟨hrx, rfl, hcol, rfl, rfl, b, ie, ps, rest, st, rfl, hscan, hview, rfl, rfl⟩))))))
  | collectEnded hrx hover hcol hids =>
    exact .inr (.inr (.inr (.inr (.inr (.inr (.inr
      ⟨hrx, rfl, rfl, hover, rfl, .inl ⟨hcol, ne_zero_iff_pos.mpr hids, rfl⟩⟩))))))
  | timedOut hrx hover hnone =>
    refine .inr (.inr (.inr (.inr (.inr (.inr (.inr ⟨hrx, rfl, rfl, hover, rfl, .inr ⟨?_, rfl⟩⟩))))))
    rwa [← ne_zero_iff_pos, Decidable.not_and_iff_or_not, Bool.not_eq_true, not_ne_iff] at hnone
  | startRefused v n hidle | startFailed v n code hidle => exact absurd hidle.symm hne
  | registerWritten a r v hr => cases r <;> exact absurd rfl hne
  | _ => exact absurd rfl hne

/-! ## The outputs (`10_state.md` R46) -/

/-- Settles O53: what a START with TX passes on to the encoder has flushed, and `TxAccept` emits the head of the queue. -/
theorem outputsComeOnlyFromStartAndAccept : Obligations.OutputsComeOnlyFromStartAndAccept := by
  intro s t e es hevents ht
  have hp := step_performs hevents ht
  have hstart {v : Word} (hv : v = 1 ∨ v = 3 ∨ v = 7) : Event.hostWrite 0x08 4 v = .hostWrite 0x08 4 1 ∨
      Event.hostWrite 0x08 4 v = .hostWrite 0x08 4 3 ∨ Event.hostWrite 0x08 4 v = .hostWrite 0x08 4 7 :=
    hv.imp (congrArg _) (Or.imp (congrArg _) (congrArg _))
  cases hp with
  | startFailed v n code hidle hv | startQueued v n f hidle hv => exact .inr (.inl ⟨rfl, hidle, hstart hv⟩)
  | byteSent b rest htx hq | frameSentAwaiting b htx hq | frameSent b htx hq =>
    exact .inr (.inr ⟨b, rfl, htx, rfl, hq⟩)
  | registerWritten a r v hr => cases r <;> exact .inl rfl
  | _ => exact .inl rfl

/-! ## The flags (`10_state.md` R38) -/

/-- What a step can do to `DONE`. -/
theorem Performs.done_cases (hp : Performs s e t) :
    t.done = s.done ∨ (Completed t ∧ (IsStart e ∨ IsTransport e)) ∨
      (t.done = false ∧ (e = .reset ∨ (s.phase = .idle ∧ IsStart e) ∨ ∃ v, e = .hostWrite 0x04 4 v ∧ v.getLsbD 1 = true)) := by
  cases hp with
  | reset => exact .inr (.inr ⟨rfl, .inl rfl⟩)
  | registerWritten a r v hr =>
    cases r with
    | status =>
      obtain rfl := eq_offset_of_regAt hr
      cases hbit : v.getLsbD 1 with
      | false => exact .inl (by simp only [writeReg, acknowledge, hbit, Bool.not_false, Bool.and_true])
      | true =>
        exact .inr (.inr ⟨by simp only [writeReg, acknowledge, hbit, Bool.not_true, Bool.and_false],
          .inr (.inr ⟨v, rfl, hbit⟩)⟩)
    | _ => exact .inl rfl
  | startRefused v => exact .inr (.inl ⟨completed_complete (by decide) _, .inl ⟨v, rfl⟩⟩)
  | startFailed v n code _ _ _ hcode =>
    exact .inr (.inl ⟨completed_complete (by rcases hcode with rfl | rfl <;> decide) _, .inl ⟨v, rfl⟩⟩)
  | startQueued v n f hidle => exact .inr (.inr ⟨rfl, .inr (.inl ⟨hidle, v, rfl⟩)⟩)
  | startReceives n hidle => exact .inr (.inr ⟨rfl, .inr (.inl ⟨hidle, 2, rfl⟩)⟩)
  | frameSent => exact .inr (.inl ⟨completed_complete (by decide) _, .inr isTransport_txAccept⟩)
  | refused => exact .inr (.inl ⟨completed_complete (by decide) _, .inr isTransport_txRefuse⟩)
  | responseAccepted b => exact .inr (.inl ⟨completed_complete (by decide) _, .inr (isTransport_rxByte b)⟩)
  | collectEnded | timedOut => exact .inr (.inl ⟨completed_complete (by decide) _, .inr isTransport_tick⟩)
  | _ => exact .inl rfl

/-- A request in flight ends by a completion of the transport or the time base, or by Reset. -/
theorem Performs.completed_of_busy_falls (hp : Performs s e t) (hs : s.phase ≠ .idle) (ht : t.phase = .idle) :
    e = .reset ∨ (Completed t ∧ IsTransport e) := by
  cases hp with
  | reset => exact .inl rfl
  | frameSent => exact .inr ⟨completed_complete (by decide) _, isTransport_txAccept⟩
  | refused => exact .inr ⟨completed_complete (by decide) _, isTransport_txRefuse⟩
  | responseAccepted b => exact .inr ⟨completed_complete (by decide) _, isTransport_rxByte b⟩
  | collectEnded | timedOut => exact .inr ⟨completed_complete (by decide) _, isTransport_tick⟩
  | startRefused v n hidle | startFailed v n code hidle => exact absurd hidle hs
  | startQueued | startReceives | frameSentAwaiting => cases ht
  | registerWritten a r => cases r <;> exact absurd ht hs
  | _ => exact absurd ht hs

/-- A request in flight begins with a START. -/
theorem Performs.start_of_busy_rises (hp : Performs s e t) (hs : s.phase = .idle) (ht : t.phase ≠ .idle) :
    IsStart e ∧ (t.phase = .tx ∨ t.phase = .rx) ∧ t.done = false := by
  cases hp with
  | startQueued v => exact ⟨⟨v, rfl⟩, .inl rfl, rfl⟩
  | startReceives => exact ⟨⟨2, rfl⟩, .inr rfl, rfl⟩
  | frameSentAwaiting b htx => cases hs.symm.trans htx
  | reset | startRefused | startFailed | frameSent | refused | responseAccepted | collectEnded | timedOut =>
    exact absurd rfl ht
  | registerWritten a r => cases r <;> exact absurd hs ht
  | _ => exact absurd hs ht

theorem Performs.busyReject_cases (hp : Performs s e t) :
    t.busyReject = s.busyReject ∨ (t.busyReject = true ∧ s.phase ≠ .idle ∧ IsStart e) ∨
      (t.busyReject = false ∧ (e = .reset ∨ ∃ v, e = .hostWrite 0x04 4 v ∧ v.getLsbD 2 = true)) := by
  cases hp with
  | reset => exact .inr (.inr ⟨rfl, .inl rfl⟩)
  | registerWritten a r v hr =>
    cases r with
    | status =>
      obtain rfl := eq_offset_of_regAt hr
      cases hbit : v.getLsbD 2 with
      | false => exact .inl (by simp only [writeReg, acknowledge, hbit, Bool.not_false, Bool.and_true])
      | true =>
        exact .inr (.inr ⟨by simp only [writeReg, acknowledge, hbit, Bool.not_true, Bool.and_false],
          .inr ⟨v, rfl, hbit⟩⟩)
    | _ => exact .inl rfl
  | startRejected v hbusy => exact .inr (.inl ⟨rfl, hbusy, v, rfl⟩)
  | _ => exact .inl rfl

theorem Performs.corruptSeen_cases (hp : Performs s e t) :
    t.corruptSeen = s.corruptSeen ∨
      (t.corruptSeen = true ∧
        ∃ b, e = .rxByte b ∧ s.phase = .rx ∧ scan s.cfg s.curProto (s.rxbuf ++ [b]) = .corrupt) ∨
      (t.corruptSeen = false ∧ (e = .reset ∨ (s.phase = .idle ∧ IsStart e))) := by
  cases hp with
  | reset => exact .inr (.inr ⟨rfl, .inl rfl⟩)
  | corruptSeen b hrx hscan => exact .inr (.inl ⟨rfl, b, rfl, hrx, hscan⟩)
  | startRefused v n hidle | startFailed v n code hidle | startQueued v n f hidle =>
    exact .inr (.inr ⟨rfl, .inr ⟨hidle, v, rfl⟩⟩)
  | startReceives n hidle => exact .inr (.inr ⟨rfl, .inr ⟨hidle, 2, rfl⟩⟩)
  | registerWritten a r => cases r <;> exact .inl rfl
  | _ => exact .inl rfl

theorem Performs.idmissSeen_cases (hp : Performs s e t) :
    t.idmissSeen = s.idmissSeen ∨
      (t.idmissSeen = true ∧ ∃ b id ie params rest, e = .rxByte b ∧ s.phase = .rx ∧
        scan s.cfg s.curProto (s.rxbuf ++ [b]) = .frame id ie params rest ∧
        (statusView s.cfg s.curProto ie params = none ∨ (s.curCollect = false ∧ id ≠ s.curId) ∨
          (s.curCollect = true ∧ addressableId id = false))) ∨
      (t.idmissSeen = false ∧ (e = .reset ∨ (s.phase = .idle ∧ IsStart e))) := by
  cases hp with
  | reset => exact .inr (.inr ⟨rfl, .inl rfl⟩)
  | frameDiscarded b id ie ps rest hrx hscan hmiss => exact .inr (.inl ⟨rfl, b, id, ie, ps, rest, rfl, hrx, hscan, hmiss⟩)
  | startRefused v n hidle | startFailed v n code hidle | startQueued v n f hidle =>
    exact .inr (.inr ⟨rfl, .inr ⟨hidle, v, rfl⟩⟩)
  | startReceives n hidle => exact .inr (.inr ⟨rfl, .inr ⟨hidle, 2, rfl⟩⟩)
  | registerWritten a r => cases r <;> exact .inl rfl
  | _ => exact .inl rfl

theorem statusWord_busy_eq_false (s : State) : (statusWord s).getLsbD 0 = false ↔ s.phase = .idle := by
  rw [← Bool.not_eq_true, statusWord_busy, not_not]

/-- Settles O58: each flag by what a step can do to it. -/
theorem flagsChangeOnlyByTheTable : Obligations.FlagsChangeOnlyByTheTable := by
  intro s t e es hevents ht hreset
  have hp := step_performs hevents ht
  refine ⟨fun hs ht => ?_, fun hs ht => ?_, fun hs ht => ?_, fun hs ht => ?_, fun hs ht => ?_, fun hs ht => ?_,
    fun hs ht => ?_, fun hs ht => ?_, fun hs ht => ?_, fun hs ht => ?_⟩
  · exact hp.start_of_busy_rises ((statusWord_busy_eq_false s).mp hs) ((statusWord_busy t).mp ht)
  · obtain h | ⟨⟨hdone, hidle, htxq, hrxbuf, -⟩, he⟩ :=
      hp.completed_of_busy_falls ((statusWord_busy s).mp hs) ((statusWord_busy_eq_false t).mp ht)
    · exact absurd h hreset
    · exact ⟨hdone, hidle, htxq, hrxbuf, he⟩
  · obtain h | ⟨⟨-, hidle, htxq, hrxbuf, hres⟩, he⟩ | ⟨h, -⟩ := hp.done_cases
    · cases (hs.symm.trans h.symm).trans ht
    · exact ⟨hidle, htxq, hrxbuf, hres, he⟩
    · cases h.symm.trans ht
  · obtain h | ⟨⟨h, -⟩, -⟩ | ⟨-, he⟩ := hp.done_cases
    · cases (hs.symm.trans h.symm).trans ht
    · cases h.symm.trans ht
    · exact (he.resolve_left hreset).symm
  · obtain h | ⟨-, he⟩ | ⟨h, -⟩ := hp.busyReject_cases
    · cases (hs.symm.trans h.symm).trans ht
    · exact he
    · cases h.symm.trans ht
  · obtain h | ⟨h, -⟩ | ⟨-, he⟩ := hp.busyReject_cases
    · cases (hs.symm.trans h.symm).trans ht
    · cases h.symm.trans ht
    · exact he.resolve_left hreset
  · obtain h | ⟨-, he⟩ | ⟨h, -⟩ := hp.corruptSeen_cases
    · cases (hs.symm.trans h.symm).trans ht
    · exact he
    · cases h.symm.trans ht
  · obtain h | ⟨h, -⟩ | ⟨-, he⟩ := hp.corruptSeen_cases
    · cases (hs.symm.trans h.symm).trans ht
    · cases h.symm.trans ht
    · exact he.resolve_left hreset
  · obtain h | ⟨-, b, id, ie, ps, rest, he, hrx, hscan, hmiss⟩ | ⟨h, -⟩ := hp.idmissSeen_cases
    · cases (hs.symm.trans h.symm).trans ht
    · refine ⟨b, id, ie, ps, rest, he, hrx, hscan, hmiss.imp_right (Or.imp_right (And.imp_right fun hid => ?_))⟩
      rwa [← Bool.not_eq_true, addressableId_iff, Nat.not_le] at hid
    · cases h.symm.trans ht
  · obtain h | ⟨h, -⟩ | ⟨-, he⟩ := hp.idmissSeen_cases
    · cases (hs.symm.trans h.symm).trans ht
    · cases h.symm.trans ht
    · exact he.resolve_left hreset

/-! ## The interrupt (`60_exceptions.md` R310, R311) -/

theorem irq_eq_true_iff (s : State) : irq s = true ↔ s.done = true ∧ s.irqEn = true := Bool.and_eq_true_iff

/-- What a step can do to `IRQ_EN`; a write to `CTRL` leaves `DONE`. -/
theorem Performs.irqEn_cases (hp : Performs s e t) :
    t.irqEn = s.irqEn ∨ (∃ v, e = .hostWrite 0x00 4 v ∧ t.irqEn = v.getLsbD 1 ∧ t.done = s.done) ∨
      (e = .reset ∧ t.irqEn = false) := by
  cases hp with
  | reset => exact .inr (.inr ⟨rfl, rfl⟩)
  | registerWritten a r v hr =>
    cases r with
    | ctrl =>
      obtain rfl := eq_offset_of_regAt hr
      exact .inr (.inl ⟨v, rfl, rfl, rfl⟩)
    | _ => exact .inl rfl
  | _ => exact .inl rfl

theorem Performs.irq_rises (hp : Performs s e t) (hs : irq s = false) (ht : irq t = true) :
    (s.irqEn = true ∧ s.done = false ∧ Completed t) ∨
      (s.done = true ∧ s.irqEn = false ∧ ∃ v, e = .hostWrite 0x00 4 v ∧ v.getLsbD 1 = true) := by
  obtain ⟨htd, hte⟩ := (irq_eq_true_iff t).mp ht
  have hnot : ¬ (s.done = true ∧ s.irqEn = true) := fun h => by simp [(irq_eq_true_iff s).mpr h] at hs
  obtain hsame | ⟨v, he, hbit, hd⟩ | ⟨-, h⟩ := hp.irqEn_cases
  · rw [hsame] at hte
    have hsd : s.done = false := by simpa [hte] using hnot
    obtain h | ⟨hc, -⟩ | ⟨h, -⟩ := hp.done_cases
    · cases (hsd.symm.trans h.symm).trans htd
    · exact .inl ⟨hte, hsd, hc⟩
    · cases h.symm.trans htd
  · have hsd : s.done = true := hd.symm.trans htd
    exact .inr ⟨hsd, by simpa [hsd] using hnot, v, he, hbit.symm.trans hte⟩
  · cases h.symm.trans hte

theorem Performs.irq_falls (hp : Performs s e t) (hs : irq s = true) (ht : irq t = false) :
    e = .reset ∨ (∃ v, e = .hostWrite 0x00 4 v ∧ v.getLsbD 1 = false) ∨
      (∃ v, e = .hostWrite 0x04 4 v ∧ v.getLsbD 1 = true) ∨ (s.phase = .idle ∧ IsStart e) := by
  obtain ⟨hsd, hse⟩ := (irq_eq_true_iff s).mp hs
  have hnot : ¬ (t.done = true ∧ t.irqEn = true) := fun h => by simp [(irq_eq_true_iff t).mpr h] at ht
  obtain hsame | ⟨v, he, hbit, hd⟩ | ⟨he, -⟩ := hp.irqEn_cases
  · have htd : t.done = false := by simpa [hsame, hse] using hnot
    obtain h | ⟨⟨h, -⟩, -⟩ | ⟨-, he | he | he⟩ := hp.done_cases
    · cases (htd.symm.trans h).trans hsd
    · cases htd.symm.trans h
    · exact .inl he
    · exact .inr (.inr (.inr he))
    · exact .inr (.inr (.inl he))
  · have hbit' : v.getLsbD 1 = false := by simpa [hd, hsd, hbit] using hnot
    exact .inr (.inl ⟨v, he, hbit'⟩)
  · exact .inl he

/-- Settles O26: `irq` is the conjunction of two bits, each of which a step changes in few ways. -/
theorem interruptIsDoneAndEnabled : Obligations.InterruptIsDoneAndEnabled := by
  refine ⟨irq_eq_true_iff, fun s t e es hevents ht hs hi => ?_, fun s t e es hevents ht hs hi => ?_,
    fun s t v es hevents hp ht => ?_⟩
  · obtain ⟨he, hd, -, hidle, htxq, hrxbuf, hres⟩ | h := (step_performs hevents ht).irq_rises hs hi
    · exact .inl ⟨he, hd, hidle, htxq, hrxbuf, hres⟩
    · exact .inr h
  · exact (step_performs hevents ht).irq_falls hs hi
  · cases (startWhileBusyIsPortBusy.2 s v es hevents hp).symm.trans ht
    rfl

/-! ## The request registers and `TXP` (`10_state.md` R21, `60_exceptions.md` R320) -/

/-- The fields the host alone writes stand in `t` as in `s`: `CTRL`, the request registers and the `T_` registers. -/
def SameRequestRegisters (s t : State) : Prop :=
  t.proto = s.proto ∧ t.irqEn = s.irqEn ∧ t.reqId = s.reqId ∧ t.reqInstr = s.reqInstr ∧ t.reqPlen = s.reqPlen ∧
    t.reqRxlen = s.reqRxlen ∧ t.tLat = s.tLat ∧ t.tByte = s.tByte ∧ t.tSlack = s.tSlack

theorem sameRequestRegisters_refl (s : State) : SameRequestRegisters s s := ⟨rfl, rfl, rfl, rfl, rfl, rfl, rfl, rfl, rfl⟩

/-- Data written to `RXP` reach no byte of `TXP`. -/
theorem read?_txp_writeList_rxp (m : Memory) (data : List Byte) {i : Nat} (hi : i < 0x10000) :
    (m.writeList rxpBase data).read? (0x10000 + i) = m.read? (0x10000 + i) :=
  Memory.read?_writeList_below m data (by simp only [rxpBase]; omega)

theorem Performs.keeps_request (hp : Performs s e t) (he : e ≠ .reset) (hw : ∀ a n v, e = .hostWrite a n v → a = 0x08) :
    SameRequestRegisters s t ∧ ∀ i, i < 0x10000 → t.mem.read? (0x10000 + i) = s.mem.read? (0x10000 + i) := by
  cases hp with
  | reset => exact absurd rfl he
  | registerWritten a r v hr =>
    have hoff := (eq_offset_of_regAt hr).symm.trans (hw a 4 v rfl)
    cases r with
    | cmd => exact ⟨sameRequestRegisters_refl s, fun _ _ => rfl⟩
    | idmap k => simp only [Reg.offset] at hoff; omega
    | _ => cases hoff
  | txpWritten i n v => exact absurd (hw _ n v rfl) (by simp only [txpBase]; omega)
  | frameSent | responseAccepted | collectEnded =>
    exact ⟨sameRequestRegisters_refl s, fun _ hi => read?_txp_writeList_rxp s.mem _ hi⟩
  | _ => exact ⟨sameRequestRegisters_refl s, fun _ _ => rfl⟩

/-- Settles O54: of what is left, only completions write memory, and they write `RXP`. -/
theorem onlyTheHostWritesTheRequestRegisters : Obligations.OnlyTheHostWritesTheRequestRegisters := by
  intro s t e es hevents ht he hw
  obtain ⟨⟨h1, h2, h3, h4, h5, h6, h7, h8, h9⟩, hmem⟩ := (step_performs hevents ht).keeps_request he hw
  exact ⟨h1, h2, h3, h4, h5, h6, h7, h8, h9, hmem⟩

/-! ## The result registers and `RXP` (`10_state.md` R31, `60_exceptions.md` R313, R321) -/

/-- `RES_HDR` and every byte of `RXP` stand in `t` as in `s`. -/
def SameResultRegisters (s t : State) : Prop :=
  t.resId = s.resId ∧ t.resErr = s.resErr ∧ t.resPlen = s.resPlen ∧
    ∀ i, t.mem.read? (0x20000 + i) = s.mem.read? (0x20000 + i)

/-- A `TXP` write reaches no byte of `RXP`. -/
theorem read?_rxp_writeTxp {i n : Nat} (hin : i + n ≤ 0x10000) (v : Nat) (s : State) (j : Nat) :
    (writeTxp i (leBytes n v) s).mem.read? (0x20000 + j) = s.mem.read? (0x20000 + j) := by
  rw [writeTxp_mem]
  refine Memory.read?_writeList_take _ _ (.inr (.inl ?_))
  rw [leBytes_length, txpBase]
  omega

theorem Performs.result_cases (hp : Performs s e t) :
    e = .reset ∨ SameResultRegisters s t ∨
      (s.phase ≠ .idle ∧ t.phase = .idle ∧ t.result = .success ∧ t.done = true) := by
  cases hp with
  | reset => exact .inl rfl
  | registerWritten a r => cases r <;> exact .inr (.inl ⟨rfl, rfl, rfl, fun _ => rfl⟩)
  | txpWritten i n v hin => exact .inr (.inl ⟨rfl, rfl, rfl, read?_rxp_writeTxp hin v.toNat s⟩)
  | frameSent b htx => exact .inr (.inr ⟨by simp [htx], rfl, rfl, rfl⟩)
  | responseAccepted b ie ps rest st hrx => exact .inr (.inr ⟨by simp [hrx], rfl, rfl, rfl⟩)
  | collectEnded hrx => exact .inr (.inr ⟨by simp [hrx], rfl, rfl, rfl⟩)
  | _ => exact .inr (.inl ⟨rfl, rfl, rfl, fun _ => rfl⟩)

end Events

/-- Settles O57: both change only where `completeWith` writes them, and that delivers `Success`. -/
theorem resultRegistersChangeOnlyBySuccess : Obligations.ResultRegistersChangeOnlyBySuccess :=
  fun _ _ _ _ hevents ht he hne => ((step_performs hevents ht).result_cases.resolve_left he).resolve_left hne

end Sys2Proof.Machine

/-! What does not disturb what: host writes and the request in flight (`20_memory.md` R66, R75), stale buffer bytes and a START
(`70_reset_and_hazards.md` R356, `43_sequencer.md` R210). -/

namespace Sys2Proof.Machine

/-! ## Host writes commute with the transport (`20_memory.md` R66, R75) -/

section Commute

variable {s t q : State} {e : Event} {a n : Nat} {v : Word}

/-- Writes below an address commute with a byte written there. -/
theorem Memory.write_writeList_comm {m : Memory} (h : m.wf) {a c : Nat} (b : Byte) (bs : List Byte)
    (hdis : a < c) : (m.write a b).writeList c bs = (m.writeList c bs).write a b := by
  induction bs generalizing m c with
  | nil => rfl
  | cons x bs ih =>
    rw [Memory.writeList, Memory.write_comm h b x (Nat.ne_of_lt hdis), ih (Memory.write_wf h c x) (by omega)]
    rfl

/-- Writes to ranges one below the other commute. -/
theorem Memory.writeList_comm {m : Memory} (h : m.wf) {a c : Nat} (bs ds : List Byte) (hdis : a + bs.length ≤ c) :
    (m.writeList a bs).writeList c ds = (m.writeList c ds).writeList a bs := by
  induction bs generalizing m a with
  | nil => rfl
  | cons x bs ih =>
    rw [List.length_cons] at hdis
    rw [Memory.writeList, ih (Memory.write_wf h a x) (by omega), Memory.write_writeList_comm h x ds (by omega)]
    rfl

/-- `s` with the fields the host alone writes taken from `q`, the schedule too, and the memory changed by `f`. -/
def withHostStores (q : State) (f : Memory → Memory) (s : State) : State :=
  { s with
    proto := q.proto
    irqEn := q.irqEn
    reqId := q.reqId
    reqInstr := q.reqInstr
    reqPlen := q.reqPlen
    reqRxlen := q.reqRxlen
    tLat := q.tLat
    tByte := q.tByte
    tSlack := q.tSlack
    events := q.events
    mem := f s.mem }

/-- `f` commutes, on the memory of `s`, with what a completion writes to `RXP`. -/
def CommutesWithData (f : Memory → Memory) (s : State) : Prop :=
  ∀ data, (f s.mem).writeList rxpBase data = f (s.mem.writeList rxpBase data)

theorem completeWith_withHostStores {f : Memory → Memory} (hf : CommutesWithData f s) (id err : Byte) (data : List Byte) :
    completeWith id err data (withHostStores q f s) = withHostStores q f (completeWith id err data s) := by
  simp only [completeWith, withHostStores, complete, hf data]

theorem txAccept_withHostStores (q : State) {f : Memory → Memory} (hf : CommutesWithData f s) :
    txAccept (withHostStores q f s) = withHostStores q f (txAccept s) := by
  by_cases htx : s.phase = .tx ∧ s.txq ≠ []
  · obtain ⟨hp, hne⟩ := htx
    obtain ⟨b, rest, hq⟩ := List.exists_cons_of_ne_nil hne
    rw [txAccept_of_cons hp hq, txAccept_of_cons (s := withHostStores q f s) hp hq, apply_ite (withHostStores q f),
      apply_ite (withHostStores q f), ← completeWith_withHostStores (s := emit (.txByte b) { s with txq := rest }) hf]
    rfl
  · have hno : s.phase ≠ .tx ∨ s.txq = [] := by tauto
    rw [txAccept_of_not_presented hno, txAccept_of_not_presented (s := withHostStores q f s) hno]

theorem txRefuse_withHostStores (q : State) (f : Memory → Memory) (s : State) :
    txRefuse (withHostStores q f s) = withHostStores q f (txRefuse s) := by
  by_cases hp : s.phase = .tx
  · rw [txRefuse_of_tx hp, txRefuse_of_tx (s := withHostStores q f s) hp]
    rfl
  · rw [txRefuse_of_ne_tx hp, txRefuse_of_ne_tx (s := withHostStores q f s) hp]

theorem tick_withHostStores (q : State) {f : Memory → Memory} (hf : CommutesWithData f s) :
    tick (withHostStores q f s) = withHostStores q f (tick s) := by
  by_cases hp : s.phase = .rx
  · rw [tick_of_rx hp, tick_of_rx (s := withHostStores q f s) hp, apply_ite (withHostStores q f),
      apply_ite (withHostStores q f),
      ← completeWith_withHostStores (s := { s with elapsed := satTW (s.elapsed.toNat + 1) }) hf]
    rfl
  · rw [tick_of_ne_rx hp, tick_of_ne_rx (s := withHostStores q f s) hp]

theorem collectFrame_withHostStores (q : State) (f : Memory → Memory) (id : Byte) (sv : Option Status) (s : State) :
    collectFrame id sv (withHostStores q f s) = withHostStores q f (collectFrame id sv s) := by
  rw [collectFrame, collectFrame, apply_ite (withHostStores q f)]
  rfl

theorem responseFrame_withHostStores (q : State) {f : Memory → Memory} (hf : CommutesWithData f s) (id : Byte)
    (sv : Option Status) : responseFrame id sv (withHostStores q f s) = withHostStores q f (responseFrame id sv s) := by
  cases sv with
  | none => rfl
  | some st =>
    simp only [responseFrame]
    rw [apply_ite (withHostStores q f), ← completeWith_withHostStores hf]
    rfl

theorem rxByte_withHostStores (q : State) {f : Memory → Memory} (hf : CommutesWithData f s) (b : Byte) :
    rxByte b (withHostStores q f s) = withHostStores q f (rxByte b s) := by
  by_cases hp : s.phase = .rx
  case neg => rw [rxByte_of_ne_rx hp, rxByte_of_ne_rx (s := withHostStores q f s) hp]
  cases hs : scan s.cfg s.curProto (s.rxbuf ++ [b]) with
  | needMore k =>
    rw [rxByte_of_needMore hp hs, rxByte_of_needMore (s := withHostStores q f s) hp hs]
    rfl
  | corrupt =>
    rw [rxByte_of_corrupt hp hs, rxByte_of_corrupt (s := withHostStores q f s) hp hs]
    rfl
  | frame id ie ps rest =>
    rw [rxByte_of_frame hp hs, rxByte_of_frame (s := withHostStores q f s) hp hs, apply_ite (withHostStores q f),
      ← responseFrame_withHostStores (s := { s with rxbuf := rest }) q hf, ← collectFrame_withHostStores]
    rfl

/-- An event of the transport neither reads nor writes what the host stores. -/
theorem perform_withHostStores (he : IsTransport e) (q : State) {f : Memory → Memory} (hf : CommutesWithData f s)
    (h : perform e s = .next t) : perform e (withHostStores q f s) = .next (withHostStores q f t) := by
  rcases he with rfl | rfl | rfl | ⟨b, rfl⟩ <;> cases h <;> refine congrArg Host.Outcome.next ?_
  · exact txAccept_withHostStores q hf
  · exact txRefuse_withHostStores q f s
  · exact tick_withHostStores q hf
  · exact rxByte_withHostStores q hf b

theorem eq_withHostStores (h : SameRequestRegisters s t) : { t with events := s.events } = withHostStores s id t := by
  obtain ⟨h1, h2, h3, h4, h5, h6, h7, h8, h9⟩ := h
  simp only [withHostStores, ← h1, ← h2, ← h3, ← h4, ← h5, ← h6, ← h7, ← h8, ← h9, id]

theorem writeReg_eq_withHostStores {r : Reg} (hr : r ≠ .status) (h : SameRequestRegisters s t) (v : Word) :
    writeReg r v { t with events := s.events } = withHostStores (writeReg r v s) id t := by
  have hkeep := eq_withHostStores h
  obtain ⟨h1, h2, h3, h4, h5, h6, h7, h8, h9⟩ := h
  cases r with
  | status => exact absurd rfl hr
  | ctrl | reqHdr | reqRxlen | tLat | tByte | tSlack =>
    simp only [writeReg, withHostStores, h1, h2, h3, h4, h5, h6, h7, h8, h9, id]
  | _ => exact hkeep

/-- A host write but to `STATUS` sets some of those fields to fixed values, or bytes of `TXP`. -/
theorem hostWrite_eq_withHostStores (ha : a ≠ 0x04) (n : Nat) (v : Word) (s : State) : ∃ f : Memory → Memory,
    (∀ u : State, u.mem.wf → CommutesWithData f u) ∧
      ∀ t, SameRequestRegisters s t → t.cfg = s.cfg →
        hostWrite a n v { t with events := s.events } = withHostStores (hostWrite a n v s) f t := by
  rcases hostWrite_targets a n v with ⟨r, -, -, hr, e⟩ | ⟨i, -, -, hin, e⟩ | e
  · refine ⟨id, fun _ _ _ => rfl, fun t h _ => ?_⟩
    rw [e, e]
    exact writeReg_eq_withHostStores (fun hs => ha (eq_offset_of_regAt (hs ▸ hr))) h v
  · have hlen : ((leBytes n v.toNat).take (txpCap s.cfg - i)).length ≤ n := by simp [leBytes_length]
    refine ⟨fun m => m.writeList (txpBase + i) ((leBytes n v.toNat).take (txpCap s.cfg - i)), fun u hu data => ?_,
      fun t h hcfg => ?_⟩
    · exact Memory.writeList_comm hu _ _ (by simp only [txpBase, rxpBase]; omega)
    · rw [e, e]
      have hkeep := congrArg (writeTxp i (leBytes n v.toNat)) (eq_withHostStores h)
      simp only [writeTxp, withHostStores, id, hcfg] at hkeep ⊢
      exact hkeep
  · refine ⟨id, fun _ _ _ => rfl, fun t h _ => ?_⟩
    rw [e, e]
    exact eq_withHostStores h

/-- No event writes the configuration or what is left of the schedule. -/
theorem Performs.keeps_schedule (hp : Performs s e t) : t.events = s.events ∧ t.cfg = s.cfg := by
  cases hp with
  | registerWritten a r => cases r <;> exact ⟨rfl, rfl⟩
  | _ => exact ⟨rfl, rfl⟩

theorem IsTransport.keeps_request (he : IsTransport e) (hp : Performs s e t) : SameRequestRegisters s t := by
  refine (hp.keeps_request ?_ ?_).1
  · rcases he with rfl | rfl | rfl | ⟨b, rfl⟩ <;> exact Event.noConfusion
  · rcases he with rfl | rfl | rfl | ⟨b, rfl⟩ <;> exact fun _ _ _ h => Event.noConfusion h

theorem hostWrite_with_events (a n : Nat) (v : Word) (s : State) (es : List Event) :
    hostWrite a n v { s with events := es } = { hostWrite a n v s with events := es } := by
  rcases hostWrite_targets a n v with ⟨r, -, -, -, h⟩ | ⟨i, -, -, -, h⟩ | h
  · rw [h, h]
    cases r <;> rfl
  · rw [h, h]
    rfl
  · rw [h, h]

end Commute

/-- Settles O55: in either order the event acts beside the stores of the host. -/
theorem hostWritesDoNotDisturbTheRequestInFlight : Obligations.HostWritesDoNotDisturbTheRequestInFlight := by
  intro s a n v e es hwf h4 h8 he
  have hwrite (u : State) : perform (.hostWrite a n v) u = .next (hostWrite a n v u) := if_neg fun h => h8 h.1
  obtain ⟨f, hf, hstores⟩ := hostWrite_eq_withHostStores h4 n v { s with events := es }
  obtain ⟨t, ht, hp⟩ := perform_performs e { s with events := .hostWrite a n v :: es }
  obtain ⟨hevents, hcfg⟩ := hp.keeps_schedule
  have hsame := IsTransport.keeps_request he hp
  have hbefore := hstores { s with events := .hostWrite a n v :: es } (sameRequestRegisters_refl s) rfl
  have hafter := perform_withHostStores he (hostWrite a n v { s with events := es })
    (hf { s with events := .hostWrite a n v :: es } hwf) ht
  rw [← hbefore, ← hstores t hsame hcfg] at hafter
  have hfirst := hostWrite_with_events a n v { s with events := e :: es } es
  calc run 2 { s with events := .hostWrite a n v :: e :: es }
      = run 1 (hostWrite a n v { s with events := e :: es }) := run_succ_of_perform rfl (hwrite _) 1
    _ = .next (hostWrite a n v { t with events := es }) :=
      run_succ_of_perform (congrArg State.events (hostWrite_with_events a n v s (e :: es))) (hfirst ▸ hafter) 0
    _ = run 1 t := (run_succ_of_perform hevents (hwrite _) 0).symm
    _ = run 2 { s with events := e :: .hostWrite a n v :: es } :=
      (run_succ_of_perform (s := { s with events := e :: .hostWrite a n v :: es }) rfl ht 1).symm

/-! ## Stale buffer bytes and a START (`70_reset_and_hazards.md` R356) -/

section Stale

variable {s : State} {m : Memory}

/-- Beside its parameters a START reads no buffer byte, and it writes none. -/
theorem start_with_mem (v : Word) (p : Proto) (id b : Byte) (ps : List Byte) (s : State) (m : Memory) :
    start v p id b ps { s with mem := m } = { start v p id b ps s with mem := m } := by
  by_cases hp : s.phase = .idle
  case neg => rw [start_of_busy hp, start_of_busy (s := { s with mem := m }) hp]; rfl
  by_cases hadm : legalCommand v = true ∧ targetRefused v p id (instrOf s.cfg.opc b) = false
  case neg =>
    rw [Decidable.not_and_iff_or_not, Bool.not_eq_true, Bool.not_eq_false] at hadm
    rw [start_of_refused hp hadm, start_of_refused (s := { s with mem := m }) hp hadm]
    rfl
  obtain ⟨hlegal, htarget⟩ := hadm
  cases htx : cmdTx v with
  | false =>
    rw [start_of_harvest hp hlegal htarget htx, start_of_harvest (s := { s with mem := m }) hp hlegal htarget htx]
    rfl
  | true =>
    rw [start_of_transmit hp hlegal htarget htx, start_of_transmit (s := { s with mem := m }) hp hlegal htarget htx]
    rcases transmit_cases v p id b ps (latch v p id (clearForStart s)) with ⟨henc, e⟩ | ⟨henc, e⟩ | ⟨f, henc, e⟩ <;> rw [e]
    · exact transmit_of_notAvailable (s := latch v p id (clearForStart { s with mem := m })) henc
    · exact transmit_of_txError (s := latch v p id (clearForStart { s with mem := m })) henc
    · exact transmit_of_frame (s := latch v p id (clearForStart { s with mem := m })) henc

/-- The parameters are the same wherever the bytes below `PLEN` and the capacity are written alike. -/
theorem requestParams_with_mem (h : ∀ k, k < s.reqPlen.toNat → k < txpCap s.cfg →
    ∃ b, s.mem.read? (0x10000 + k) = some b ∧ m.read? (0x10000 + k) = some b) :
    requestParams { s with mem := m } = requestParams s := by
  refine List.map_congr_left fun k hk => ?_
  have hk : k < s.reqPlen.toNat := List.mem_range.mp hk
  by_cases hcap : txpCap s.cfg ≤ k
  · exact (bufferByte_beyond hcap).trans (bufferByte_beyond hcap).symm
  · rw [Nat.not_le] at hcap
    obtain ⟨b, hs, hm⟩ := h k hk hcap
    exact (bufferByte_written hcap hm).trans (bufferByte_written hcap hs).symm

theorem startFetched_with_mem (hp : s.phase = .idle) (v : Word) (hparams : requestParams { s with mem := m } = requestParams s)
    {t : State} (ht : startFetched v s = .next t) : startFetched v { s with mem := m } = .next { t with mem := m } := by
  cases (startFetched_of_idle hp v).symm.trans ht
  rw [startFetched_of_idle (s := { s with mem := m }) hp, hparams]
  exact congrArg _ (start_with_mem v s.proto s.reqId s.reqInstr _ (afterFetch v s) m)

theorem startUnfetched_with_mem (hp : s.phase = .idle) (v : Word) {t : State} (ht : startUnfetched v s = .next t) :
    startUnfetched v { s with mem := m } = .next { t with mem := m } := by
  cases (startUnfetched_of_idle hp v).symm.trans ht
  rw [startUnfetched_of_idle (s := { s with mem := m }) hp]
  exact congrArg _ (start_with_mem v s.proto s.reqId s.reqInstr [] { s with cmd := v } m)

end Stale

/-- Settles O56: a START reads the memory for its parameters only, and a receive-only START reads none. -/
theorem staleBufferBytesDoNoHarm : Obligations.StaleBufferBytesDoNoHarm := by
  intro s t m i hi hsame ht
  by_cases hp : s.phase = .idle
  case neg =>
    cases (exec_of_busy hp i).symm.trans ht
    exact exec_of_busy (s := { s with mem := m }) hp i
  rcases hi with rfl | rfl | rfl | rfl
  · exact startFetched_with_mem hp 1 (requestParams_with_mem (hsame (by decide))) ht
  · exact startUnfetched_with_mem hp 2 ht
  · exact startFetched_with_mem hp 3 (requestParams_with_mem (hsame (by decide))) ht
  · exact startFetched_with_mem hp 7 (requestParams_with_mem (hsame (by decide))) ht

end Sys2Proof.Machine

/-! Runs of the schedule: a whole transmit phase (`43_sequencer.md` R212), the timer in silence and in traffic (R225,
`70_reset_and_hazards.md` R355, R363), and a whole frame received byte by byte (R215 to R217). -/

namespace Sys2Proof.Machine

/-! ## The transmit phase (`20_memory.md` R74) -/

section Transmission

variable {s t u : State} {e : Event}

/-- `t` is what the transmit phase of `s` leads to once the whole queue has left. -/
def TransmissionEnds (s t : State) : Prop :=
  t.out = s.out ++ s.txq.map Output.txByte ∧ t.txq = [] ∧ (s.curRx = true → t.phase = .rx ∧ t.elapsed = 0) ∧
    (s.curRx = false →
      t.phase = .idle ∧ t.result = .success ∧ t.done = true ∧ t.resId = s.curId ∧ t.resErr = 0 ∧ t.resPlen = 0)

/-- What has left and what is queued, together, and the latched request decide how the phase ends. -/
theorem TransmissionEnds.of_same (h : TransmissionEnds u t)
    (hout : u.out ++ u.txq.map Output.txByte = s.out ++ s.txq.map Output.txByte) (hrx : u.curRx = s.curRx)
    (hid : u.curId = s.curId) : TransmissionEnds s t := by
  obtain ⟨h1, h2, h3, h4⟩ := h
  exact ⟨h1.trans hout, h2, hrx ▸ h3, hid ▸ hrx ▸ h4⟩

/-- The last byte ends the phase. -/
theorem transmissionEnds_last {b : Byte} (hp : s.phase = .tx) (hq : s.txq = [b]) : TransmissionEnds s (txAccept s) := by
  rw [txAccept_of_cons hp hq, if_neg (not_not_intro rfl)]
  cases hrx : s.curRx with
  | true => exact ⟨by simp [hq], rfl, fun _ => ⟨rfl, rfl⟩, fun h => absurd (hrx.symm.trans h) (by decide)⟩
  | false =>
    exact ⟨by simp [hq], rfl, fun h => absurd (hrx.symm.trans h) (by decide), fun _ => ⟨rfl, rfl, rfl, rfl, rfl, rfl⟩⟩

/-- No other event touches the transmit phase. -/
theorem Performs.keeps_transmit (hp : Performs s e t) (htx : s.phase = .tx) (haccept : e ≠ .txAccept)
    (hrefuse : e ≠ .txRefuse) (hreset : e ≠ .reset) :
    t.phase = .tx ∧ t.txq = s.txq ∧ t.curRx = s.curRx ∧ t.curId = s.curId ∧ t.out = s.out := by
  cases hp with
  | reset => exact absurd rfl hreset
  | byteSent | frameSentAwaiting | frameSent | acceptIdle => exact absurd rfl haccept
  | refused | refuseIdle => exact absurd rfl hrefuse
  | startRefused v n h | startFailed v n code h | startQueued v n f h | startReceives n h => cases h.symm.trans htx
  | byteKept b k h | corruptSeen b h => cases h.symm.trans htx
  | responseAccepted b ie ps rest st h => cases h.symm.trans htx
  | idRecorded b id ie ps rest h | frameDiscarded b id ie ps rest h => cases h.symm.trans htx
  | tickCounted h | collectEnded h | timedOut h => cases h.symm.trans htx
  | registerWritten a r => cases r <;> exact ⟨htx, rfl, rfl, rfl, rfl⟩
  | _ => exact ⟨htx, rfl, rfl, rfl, rfl⟩

/-- As many acceptances as queued bytes, the last one at the end. -/
theorem run_transmission {es rest : List Event} (hp : s.phase = .tx) (hevents : s.events = es ++ .txAccept :: rest)
    (hes : ∀ e ∈ es, e ≠ .txRefuse ∧ e ≠ .reset) (hcount : es.count .txAccept + 1 = s.txq.length) :
    ∃ t, run (es.length + 1) s = .next t ∧ t.events = rest ∧ TransmissionEnds s t := by
  induction es generalizing s with
  | nil =>
    obtain ⟨b, hq⟩ := List.length_eq_one_iff.mp hcount.symm
    exact ⟨_, run_succ_of_perform hevents rfl 0, (txAccept_performs _).keeps_schedule.1,
      (transmissionEnds_last (s := { s with events := rest }) hp hq).of_same rfl rfl rfl⟩
  | cons e es ih =>
    have hes' : ∀ e ∈ es, e ≠ .txRefuse ∧ e ≠ .reset := fun e he => hes e (List.mem_cons_of_mem _ he)
    by_cases he : e = .txAccept
    · subst he
      rw [List.count_cons_self] at hcount
      obtain ⟨b, q, hq⟩ : ∃ b q, s.txq = b :: q := List.exists_cons_of_ne_nil (List.ne_nil_of_length_pos (by omega))
      rw [hq, List.length_cons] at hcount
      have hne : q ≠ [] := List.ne_nil_of_length_pos (by omega)
      have hsent := txAccept_of_cons (s := { s with events := es ++ .txAccept :: rest }) hp hq
      rw [if_pos hne] at hsent
      have hu : perform .txAccept { s with events := es ++ .txAccept :: rest } = .next _ := congrArg Host.Outcome.next hsent
      obtain ⟨t, hrun, htev, hends⟩ := ih (s := emit (.txByte b) { s with events := es ++ .txAccept :: rest, txq := q })
        hp rfl hes' (by simpa using hcount)
      exact ⟨t, (run_succ_of_perform hevents hu _).trans hrun, htev, hends.of_same (by simp [hq]) rfl rfl⟩
    · obtain ⟨hrefuse, hreset⟩ := hes e List.mem_cons_self
      obtain ⟨u, hu, hperf⟩ := perform_performs e { s with events := es ++ .txAccept :: rest }
      obtain ⟨hup, huq, hurx, huid, huout⟩ := hperf.keeps_transmit hp he hrefuse hreset
      rw [List.count_cons_of_ne he] at hcount
      obtain ⟨t, hrun, htev, hends⟩ := ih hup hperf.keeps_schedule.1 hes' (by rw [huq]; exact hcount)
      exact ⟨t, (run_succ_of_perform hevents hu _).trans hrun, htev, hends.of_same (by rw [huq, huout]) hurx huid⟩

end Transmission

/-- Settles O35: by induction on the schedule, each acceptance taking the queue's head. -/
theorem transmitPhaseSendsExactlyTheFrame : Obligations.TransmitPhaseSendsExactlyTheFrame :=
  fun _ _ _ hp _ hevents hes hcount => run_transmission hp hevents hes hcount

/-! ## The timer (`43_sequencer.md` R225, `70_reset_and_hazards.md` R355, R363) -/

section Timer

variable {s t : State} {e : Event} {es : List Event}

theorem satTW_toNat (w : Word) : satTW w.toNat = w := by
  refine BitVec.eq_of_toNat_eq ?_
  rw [toNat_satTW]
  exact min_eq_left (Nat.le_pred_of_lt w.isLt)

theorem satTW_toNat_satTW_add (m k : Nat) : satTW ((satTW m).toNat + k) = satTW (m + k) := by
  refine BitVec.eq_of_toNat_eq ?_
  simp only [toNat_satTW]
  omega

theorem satTW_of_lt {k : Nat} (h : k < 2 ^ 32) : satTW k = BitVec.ofNat 32 k := by
  rw [satTW, min_eq_left (by omega)]

/-- While the count, saturated, stays within the budget, ticks only count. -/
theorem run_ticks {k : Nat} (hp : s.phase = .rx) (hevents : s.events = List.replicate k .tick ++ es)
    (hin : min (s.elapsed.toNat + k) (2 ^ 32 - 1) ≤ s.budget.toNat) :
    run k s = .next { s with events := es, elapsed := satTW (s.elapsed.toNat + k) } := by
  induction k generalizing s with
  | zero =>
    have hes : s.events = es := hevents
    rw [run_zero, Nat.add_zero, satTW_toNat, ← hes]
  | succ k ih =>
    have hcount : ¬ s.budget < satTW (s.elapsed.toNat + 1) := by
      rw [BitVec.lt_def, toNat_satTW]
      omega
    have htick := tick_of_rx (s := { s with events := List.replicate k .tick ++ es }) hp
    rw [if_neg hcount] at htick
    have hnext := ih (s := { s with events := List.replicate k .tick ++ es, elapsed := satTW (s.elapsed.toNat + 1) })
      hp rfl (by simp only [toNat_satTW]; omega)
    rw [run_succ_of_perform hevents (congrArg Host.Outcome.next htick), hnext, satTW_toNat_satTW_add, Nat.add_assoc, Nat.add_comm 1]

/-- The tick that exceeds the budget ends the wait. -/
theorem run_ticks_timedOut {k : Nat} (hp : s.phase = .rx) (hcol : s.curCollect = false)
    (hevents : s.events = List.replicate (k + 1) .tick ++ es)
    (hin : min (s.elapsed.toNat + k) (2 ^ 32 - 1) ≤ s.budget.toNat) (hover : s.budget < satTW (s.elapsed.toNat + (k + 1))) :
    run (k + 1) s =
      .next (complete .rxTimeout { s with events := es, elapsed := satTW (s.elapsed.toNat + (k + 1)) }) := by
  rw [List.replicate_succ', List.append_assoc] at hevents
  rw [← Nat.add_assoc, ← satTW_toNat_satTW_add] at hover ⊢
  have htick := tick_of_rx (s := { s with events := es, elapsed := satTW (s.elapsed.toNat + k) }) hp
  rw [if_pos hover, if_neg (by simp [hcol])] at htick
  rw [run_add (run_ticks hp hevents hin)]
  exact run_succ_of_perform (s := { s with events := .tick :: es, elapsed := satTW (s.elapsed.toNat + k) }) rfl
    (congrArg Host.Outcome.next htick) 0

/-- What starts no request. -/
def StartsNothing (e : Event) : Prop := e ≠ .reset ∧ ∀ a n v, e = .hostWrite a n v → a ≠ 0x08

theorem Performs.stays_idle (hp : Performs s e t) (he : StartsNothing e) (hs : s.phase = .idle) : t.phase = .idle := by
  by_contra ht
  obtain ⟨⟨v, rfl⟩, -⟩ := hp.start_of_busy_rises hs ht
  exact he.2 0x08 4 v rfl rfl

theorem run_stays_idle (hevents : s.events = es) (hes : ∀ e ∈ es, StartsNothing e) (hs : s.phase = .idle)
    (ht : run es.length s = .next t) : t.phase = .idle := by
  induction es generalizing s with
  | nil => cases ht; exact hs
  | cons e es ih =>
    obtain ⟨u, hu, hperf⟩ := perform_performs e { s with events := es }
    rw [List.length_cons, run_succ_of_perform hevents hu] at ht
    exact ih hperf.keeps_schedule.1 (fun e he => hes e (List.mem_cons_of_mem _ he))
      (hperf.stays_idle (hes e List.mem_cons_self) hs) ht

/-- An event that leaves the receive phase on leaves the budget, counts if it is a tick, and has not exceeded the budget then. -/
theorem Performs.keeps_waiting (hp : Performs s e t) (he : e ≠ .reset) (hs : s.phase = .rx) (ht : t.phase = .rx) :
    t.budget = s.budget ∧ (e = .tick → t.elapsed = satTW (s.elapsed.toNat + 1) ∧ t.elapsed ≤ t.budget) ∧
      (e ≠ .tick → t.elapsed = s.elapsed) := by
  cases hp with
  | reset => exact absurd rfl he
  | tickCounted _ hin => exact ⟨rfl, fun _ => ⟨rfl, BitVec.not_lt.mp hin⟩, fun h => absurd rfl h⟩
  | tickIdle h => exact absurd hs h
  | startRefused | startFailed | startQueued | frameSent | refused | responseAccepted | collectEnded | timedOut => cases ht
  | startReceives n h => cases h.symm.trans hs
  | frameSentAwaiting b h => cases h.symm.trans hs
  | registerWritten a r => cases r <;> exact ⟨rfl, (nomatch ·), fun _ => rfl⟩
  | _ => exact ⟨rfl, (nomatch ·), fun _ => rfl⟩

theorem Performs.rx_or_idle (hp : Performs s e t) (he : StartsNothing e) (hs : s.phase = .rx) :
    t.phase = .rx ∨ t.phase = .idle := by
  cases hp with
  | startRejected v | startRefused v | startFailed v | startQueued v => exact absurd rfl (he.2 0x08 4 v rfl)
  | startReceives => exact absurd rfl (he.2 0x08 4 2 rfl)
  | byteSent b rest h | frameSentAwaiting b h => cases h.symm.trans hs
  | registerWritten a r => cases r <;> exact .inl hs
  | reset | frameSent | refused | responseAccepted | collectEnded | timedOut => exact .inr rfl
  | _ => exact .inl hs

/-- A request that is still waiting has waited all the time. -/
theorem run_waiting (hp : s.phase = .rx) (hevents : s.events = es) (hes : ∀ e ∈ es, StartsNothing e)
    (hrun : run es.length s = .next t) (ht : t.phase = .rx) :
    t.budget = s.budget ∧ t.elapsed.toNat = min (s.elapsed.toNat + es.count .tick) (2 ^ 32 - 1) ∧
      (0 < es.count .tick → t.elapsed ≤ t.budget) := by
  induction es generalizing s with
  | nil =>
    cases hrun
    have hlt := t.elapsed.isLt
    refine ⟨rfl, ?_, fun h => absurd h (by simp)⟩
    simp only [List.count_nil, Nat.add_zero]
    omega
  | cons e es ih =>
    have hfirst := hes e List.mem_cons_self
    have hrest : ∀ e ∈ es, StartsNothing e := fun e he => hes e (List.mem_cons_of_mem _ he)
    obtain ⟨u, hu, hperf⟩ := perform_performs e { s with events := es }
    rw [List.length_cons, run_succ_of_perform hevents hu] at hrun
    have hsched : u.events = es := hperf.keeps_schedule.1
    have hurx : u.phase = .rx := (hperf.rx_or_idle hfirst hp).resolve_right fun hidle => by
      cases (run_stays_idle hsched hrest hidle hrun).symm.trans ht
    obtain ⟨hbudget, htick, hother⟩ := hperf.keeps_waiting hfirst.1 hp hurx
    obtain ⟨hb, hel, hle⟩ := ih hurx hsched hrest hrun
    refine ⟨hb.trans hbudget, ?_⟩
    by_cases he : e = .tick
    · obtain ⟨hcount, hin⟩ := htick he
      rw [hel, hcount, toNat_satTW, he, List.count_cons_self]
      refine ⟨by dsimp only; omega, fun _ => ?_⟩
      by_cases hmore : 0 < es.count .tick
      · exact hle hmore
      · have hlt : u.elapsed.toNat < 2 ^ 32 := u.elapsed.isLt
        rw [BitVec.le_def] at hin ⊢
        rw [hb, hel]
        omega
    · rw [hel, hother he, List.count_cons_of_ne he]
      exact ⟨rfl, hle⟩

end Timer

/-- Settles O36: in silence the ticks only count until the budget is exceeded; in traffic each event that leaves the request
waiting counts if it is a tick. -/
theorem timeoutFallsOnTheTickAfterTheBudget : Obligations.TimeoutFallsOnTheTickAfterTheBudget := by
  refine ⟨fun s k es hp hzero hcol hevents => ⟨fun hk => ?_, fun hk hbudget => ?_⟩,
    fun s t es hp hevents hes hrun ht => run_waiting hp hevents hes hrun ht⟩
  · have hlt : s.budget.toNat < 2 ^ 32 := s.budget.isLt
    rw [run_ticks hp hevents (by simp [hzero, hk]), hzero, ← satTW_of_lt (by omega)]
    simp
  · subst hk
    have hover : s.budget < satTW (s.elapsed.toNat + (s.budget.toNat + 1)) := by
      rw [BitVec.lt_def, toNat_satTW]
      omega
    rw [run_ticks_timedOut hp hcol hevents (by simp [hzero]) hover, hzero, ← satTW_of_lt (by omega)]
    simp [complete]

/-- Settles O59: the largest budget is never exceeded by a saturated count, a budget of 0 by the first tick. -/
theorem saturatedBudgetNeverExpires : Obligations.SaturatedBudgetNeverExpires := by
  refine ⟨fun s t hp hid hsum ht => ?_, fun s k hp hbudget hevents => ?_, fun s es hp hzero hbudget hevents => ?_⟩
  · cases (startRxReceivesWithoutFlush.1 s hp hid).symm.trans ht
    exact (toNat_satTW _).trans (min_eq_right hsum)
  · exact ⟨_, run_ticks (es := []) hp (by simpa using hevents) (by omega), hp, toNat_satTW _⟩
  · have htick := tick_of_rx (s := { s with events := es }) hp
    rw [if_pos (by simp [hzero, hbudget, BitVec.lt_def, toNat_satTW])] at htick
    refine ⟨_, (step_of_events hevents).trans (congrArg Host.Outcome.next htick), ?_⟩
    split <;> exact ⟨rfl, rfl⟩

/-! ## A whole frame received (`43_sequencer.md` R215 to R217) -/

section Reception

variable {c : Config} {p : Proto} {id ie : Byte} {ps : List Byte} {s : State} {es : List Event}

theorem idxId_lt_lenEnd (p : Proto) : idxId p < lenEnd p := by cases p <;> decide

/-- The scanner waits on every proper beginning of a frame. -/
theorem scan_take_frame (hc : configValid c) (hid : reservedId id = false) (hmax : frameLength p ps ≤ rxMax c p) {k : Nat}
    (hk : k < (frame c p id ie ps).length) :
    scan c p ((frame c p id ie ps).take k) = .needMore ((frame c p id ie ps).take k) := by
  have hlen : ((frame c p id ie ps).take k).length = k := List.length_take_of_le hk.le
  have hend := lenEnd_lt_rxMax hc p
  have hmarkLen := headerMark_length_lt_lenEnd p
  by_cases hm : (headerMark p).length ≤ k
  case neg =>
    rcases scan_cases c p ((frame c p id ie ps).take k) with ⟨-, -, e⟩ | ⟨-, hfull, -⟩ | ⟨h, hf, -⟩
    · exact e
    · omega
    · have hle := (findHeader_some hf).2.length_le
      rw [List.length_drop] at hle
      omega
  have hmark : headerMark p <+: (frame c p id ie ps).take k := by
    rw [List.prefix_take_iff]
    exact ⟨headerMark_prefix_frame c p id ie ps, hm⟩
  rw [scan_of_mark hmark]
  by_cases hfield : k < lenEnd p
  · rw [scanFrom, if_pos (by rwa [hlen])]
  have hidx := idxId_lt_lenEnd p
  have hlenOf : lenOf p ((frame c p id ie ps).take k) = lenOf p (frame c p id ie ps) := by
    rw [← lenOf_append (by rw [hlen]; omega) ((frame c p id ie ps).drop k), List.take_append_drop]
  have htotal := lenOf_frame_add_lenOverhead c id ie (admitted_of_frameLength_le_rxMax hc hmax)
  have hmin := lenMin_add_lenOverhead_le_frameLength p ps
  rw [frame_length] at hk
  have hbounds : ¬ (lenOf p (frame c p id ie ps) < lenMin p ∨ frameLength p ps > rxMax c p) := by omega
  simp only [scanFrom, hlen, hfield, byteAt_take (show idxId p < k by omega), byteAt_frame_idxId, hid, hlenOf, htotal, hbounds,
    hk, Bool.false_eq_true, if_false, if_true]

/-- Bytes the scanner keeps waiting on collect in the buffer. -/
theorem run_bytesKept {l : List Byte} (hp : s.phase = .rx) (hevents : s.events = l.map Event.rxByte ++ es)
    (hwait : ∀ k, 0 < k → k ≤ l.length →
      scan s.cfg s.curProto (s.rxbuf ++ l.take k) = .needMore (s.rxbuf ++ l.take k)) :
    run l.length s = .next { s with events := es, rxbuf := s.rxbuf ++ l } := by
  induction l generalizing s with
  | nil =>
    have hes : s.events = es := hevents
    simp [← hes]
  | cons b l ih =>
    have hkept := rxByte_of_needMore (s := { s with events := l.map Event.rxByte ++ es }) hp (hwait 1 Nat.one_pos (by simp))
    have hrest := ih (s := { s with events := l.map Event.rxByte ++ es, rxbuf := s.rxbuf ++ [b] }) hp rfl fun k _ hk => by
      simpa using hwait (k + 1) (Nat.succ_pos k) (Nat.succ_le_succ hk)
    rw [List.length_cons, run_succ_of_perform hevents (congrArg Host.Outcome.next hkept)]
    refine hrest.trans ?_
    simp

/-- A frame received byte by byte into an empty buffer is judged on its last byte, nothing left over. -/
theorem run_frameReceived (hc : configValid s.cfg) (hp : s.phase = .rx) (hbuf : s.rxbuf = []) (hcol : s.curCollect = false)
    (hid : reservedId id = false) (hmax : frameLength s.curProto ps ≤ rxMax s.cfg s.curProto)
    (hevents : s.events = (frame s.cfg s.curProto id ie ps).map Event.rxByte ++ es) :
    run (frame s.cfg s.curProto id ie ps).length s =
      .next (responseFrame id (statusView s.cfg s.curProto ie ps) { s with events := es }) := by
  have hscan := scan_frame hc hid hmax ie
  have hwait {k : Nat} := scan_take_frame (ie := ie) (k := k) hc hid hmax
  have hpos : 0 < (frame s.cfg s.curProto id ie ps).length := by
    have := lenMin_add_lenOverhead_le_frameLength s.curProto ps
    have := headerMark_length_lt_lenEnd s.curProto
    have := lenEnd_le_lenMin_add_lenOverhead s.curProto
    rw [frame_length]
    omega
  generalize frame s.cfg s.curProto id ie ps = f at hscan hwait hpos hevents
  obtain ⟨l, b, rfl⟩ : ∃ l b, f = l ++ [b] :=
    ⟨_, _, (List.dropLast_append_getLast (List.ne_nil_of_length_pos hpos)).symm⟩
  rw [List.map_append, List.append_assoc] at hevents
  have hkept := run_bytesKept hp hevents fun k _ hk => by
    have htake : (l ++ [b]).take k = l.take k := List.take_append_of_le_length hk
    have h := hwait (k := k) (by simp; omega)
    rwa [htake, ← List.nil_append (l.take k), ← hbuf] at h
  have hlast : scan s.cfg s.curProto (s.rxbuf ++ l ++ [b]) = .frame id ie ps [] := by rwa [hbuf, List.nil_append]
  have hjudged := rxByte_of_frame (s := { s with events := es, rxbuf := s.rxbuf ++ l }) hp hlast
  rw [if_neg (by simp [hcol])] at hjudged
  have hempty : ({ s with events := es } : State) = { s with events := es, rxbuf := [] } := by rw [← hbuf]
  rw [List.length_append, run_add hkept, hempty]
  exact run_succ_of_perform (s := { s with events := .rxByte b :: es, rxbuf := s.rxbuf ++ l }) rfl
    (congrArg Host.Outcome.next hjudged) 0

end Reception

/-- Settles O38: judged whole, the frame is of another id. -/
theorem foreignFrameIsDiscarded : Obligations.ForeignFrameIsDiscarded := by
  intro s id ie params es hc hp hbuf hcol hid h253 h255 hmax hevents
  rw [run_frameReceived hc hp hbuf hcol (reservedId_eq_false h253 h255) hmax hevents]
  rcases responseFrame_cases id (statusView s.cfg s.curProto ie params) { s with events := es } with
    ⟨st, -, heq, -⟩ | ⟨-, e⟩
  · exact absurd heq hid
  · rw [e]

/-- Settles O37: in each of the three forms the frame is one whose status view is the error byte and the data. -/
theorem statusFrameOfTheDeviceIsAccepted : Obligations.StatusFrameOfTheDeviceIsAccepted := by
  intro s err data f es hc hp hbuf hcol hid hform hevents
  obtain ⟨ie, ps, rfl, hmax, hview⟩ : ∃ ie ps, f = frame s.cfg s.curProto s.curId ie ps ∧
      frameLength s.curProto ps ≤ rxMax s.cfg s.curProto ∧ statusView s.cfg s.curProto ie ps = some ⟨err, data⟩ := by
    rcases hform with ⟨hproto, hmax, rfl⟩ | ⟨hproto, hstatus, hmax, rfl⟩ | ⟨hproto, hstatus, hmax, rfl⟩ <;> rw [hproto]
    · exact ⟨err, data, rfl, hmax, rfl⟩
    · exact ⟨err, data, rfl, hmax, by simp only [statusView, hstatus]⟩
    · exact ⟨s.cfg.opc.statusResponse, err :: data, rfl, hmax, by simp only [statusView, hstatus, if_true]⟩
  rw [run_frameReceived hc hp hbuf hcol (reservedId_eq_false_of_target (.inl hid)) hmax hevents, hview, responseFrame]
  simp only [if_true]
  rfl

end Sys2Proof.Machine

/-! The wrapper `read` (`44_instructions.md` R275, R277, R278): its accesses up to START, and what follows them. -/

namespace Sys2Proof.Machine

/-! ## The accesses up to START (`30_encoding.md` R116) -/

section Issue

variable {s : State} {es : List Event}

theorem append_extract_middle (a : Half) (b c : Byte) : (a ++ b ++ c).extractLsb' 8 8 = b := by
  have hb := b.isLt
  have hc := c.isLt
  refine BitVec.eq_of_toNat_eq ?_
  rw [BitVec.extractLsb'_toNat, toNat_append_append, Nat.shiftRight_eq_div_pow]
  omega

theorem append_extract_high (a : Half) (b c : Byte) : (a ++ b ++ c).extractLsb' 16 16 = a := by
  have ha := a.isLt
  have hb := b.isLt
  have hc := c.isLt
  refine BitVec.eq_of_toNat_eq ?_
  rw [BitVec.extractLsb'_toNat, toNat_append_append, Nat.shiftRight_eq_div_pow]
  omega

theorem leBytes_one (b : Byte) : leBytes 1 (b.setWidth 32 : Word).toNat = [b] := by
  have hb : b.toNat < 256 := b.isLt
  simp only [leBytes, lo8, BitVec.toNat_setWidth, List.cons.injEq, and_true]
  refine BitVec.eq_of_toNat_eq ?_
  rw [BitVec.toNat_ofNat]
  omega

/-- Byte writes inside the capacity store the bytes. -/
theorem run_wrb {bs : List Byte} {i : Nat} (hevents : s.events = wrb i bs ++ es) (hcap : i + bs.length ≤ txpCap s.cfg)
    (hwin : i + bs.length ≤ 0x10000) :
    run bs.length s = .next { s with events := es, mem := s.mem.writeList (txpBase + i) bs } := by
  induction bs generalizing s i with
  | nil =>
    have hes : s.events = es := hevents
    simp [Memory.writeList, ← hes]
  | cons b bs ih =>
    rw [List.length_cons] at hcap hwin
    have hstep := step_txpWrite (n := 1) (.inl rfl) (by omega) hevents
    rw [leBytes_one, List.take_of_length_le (by simp; omega)] at hstep
    have hrest := ih (s := { s with events := wrb (i + 1) bs ++ es, mem := s.mem.writeList (0x10000 + i) [b] }) rfl
      (by simp only; omega) (by omega)
    exact (run_succ_of_step hstep bs.length).trans hrest

theorem wrb_length (i : Nat) (bs : List Byte) : (wrb i bs).length = bs.length := by
  induction bs generalizing i with
  | nil => rfl
  | cons b bs ih => rw [wrb, List.length_cons, List.length_cons, ih]

theorem step_wrReqHdr {plen : Nat} {b id : Byte} (h : s.events = wrReqHdr plen b id :: es) :
    step s = .next { s with events := es, reqId := id, reqInstr := b, reqPlen := BitVec.ofNat 16 plen } := by
  have hstep := (registerWritesFollowTheMap.2.1 s (BitVec.ofNat 16 plen ++ b ++ id) es).2.1 h
  rwa [BitVec.extractLsb'_append_eq_right, append_extract_middle, append_extract_high] at hstep

/-- The request an expansion leaves in the registers and in `TXP`. -/
def issued (i : WireInstr) (id : Byte) (params : List Byte) (rxlen : Half) (s : State) : State :=
  { s with
    events := []
    mem := s.mem.writeList txpBase params
    reqId := id
    reqInstr := opcByte s.cfg.opc i
    reqPlen := BitVec.ofNat 16 params.length
    reqRxlen := rxlen }

theorem requestParams_issued {params : List Byte} (hlen : params.length < 2 ^ 16) (hcap : params.length ≤ txpCap s.cfg)
    (i : WireInstr) (id : Byte) (rxlen : Half) : requestParams (issued i id params rxlen s) = params := by
  have hplen : (BitVec.ofNat 16 params.length).toNat = params.length := by
    rw [BitVec.toNat_ofNat, Nat.mod_eq_of_lt hlen]
  refine List.ext_getElem (by simp [requestParams, issued, hplen]) fun k _ hk => ?_
  simp only [requestParams, List.getElem_map, List.getElem_range]
  exact bufferByte_written (s := issued i id params rxlen s) (Nat.lt_of_lt_of_le hk hcap)
    (Memory.read?_writeList s.mem txpBase params hk)

/-- An expansion that ends with `START TXRX` runs it on the request it has stored. -/
theorem run_issue {i : WireInstr} {id : Byte} {params : List Byte} {rxlen : Nat}
    (hevents : s.events = issue s.cfg i id params rxlen 3) (hcap : params.length ≤ txpCap s.cfg)
    (hwin : params.length ≤ 0x10000) {t : State}
    (hstart : exec .startTxrx (issued i id params ((BitVec.ofNat 32 rxlen : Word).extractLsb' 0 16) s) = .next t) :
    run (issue s.cfg i id params rxlen 3).length s = .next t := by
  have hlen : (issue s.cfg i id params rxlen 3).length = params.length + 3 := by
    rw [issue, List.length_append, wrb_length]
    rfl
  have hstored := run_wrb hevents (by omega) (by omega)
  have hlast := step_of_cmdWrite (v := 3) (es := [])
    (s := { issued i id params ((BitVec.ofNat 32 rxlen : Word).extractLsb' 0 16) s with events := [wrStart 3] }) rfl
  rw [hlen, run_add hstored, run_succ_of_step (step_wrReqHdr rfl),
    run_succ_of_step ((registerWritesFollowTheMap.2.1 _ _ _).2.2.1 rfl)]
  exact run_succ_of_step (hlast.trans hstart) 0

end Issue

/-! ## The request is transmitted (`43_sequencer.md` R205) -/

/-- Four bytes are stuffed with at most one more. -/
theorem stuff_length_le (p : List Byte) : (stuff p).length ≤ p.length + p.length / 3 := by
  rw [stuff_length]
  exact Nat.add_le_add_left (patternCount_zero_zero_le p) _

theorem operands_length (proto : Proto) (address n : Nat) : (operand16 proto address ++ operand16 proto n).length ≤ 4 := by
  cases proto <;> simp [operand16]

theorem avail_read (proto : Proto) : avail proto .read = true := by cases proto <;> rfl

/-- The accesses of `read` end in the transmit phase with the Read request queued. -/
theorem run_readExpansion {s : State} {id : Byte} {address n : Nat} {es : List Event} (hc : configValid s.cfg)
    (hp : s.phase = .idle) (hid : id.toNat ≤ 252) (hcap : 4 ≤ txpCap s.cfg)
    (hexp : readExpansion s.cfg s.proto id address n = .ok es) (hevents : s.events = es)
    (hfit : frameLength s.proto (operand16 s.proto address ++ operand16 s.proto n) ≤ txMax s.cfg s.proto) :
    ∃ t, run es.length s = .next t ∧ t.phase = .tx ∧ t.curRx = true ∧ t.events = [] ∧
      t.txq = frame s.cfg s.proto id s.cfg.opc.read (operand16 s.proto address ++ operand16 s.proto n) := by
  obtain rfl : issue s.cfg .read id (operand16 s.proto address ++ operand16 s.proto n) (responseLen s.proto n) 3 = es := by
    unfold readExpansion at hexp
    split at hexp
    · cases hexp
    · exact Except.ok.inj hexp
  have hlen := operands_length s.proto address n
  generalize operand16 s.proto address ++ operand16 s.proto n = params at *
  have hparams := requestParams_issued (s := s) (params := params) (by omega) (by omega) .read id
    ((BitVec.ofNat 32 (responseLen s.proto n) : Word).extractLsb' 0 16)
  have hstart := startTransmitsTheRequest.2
    (issued .read id params ((BitVec.ofNat 32 (responseLen s.proto n) : Word).extractLsb' 0 16) s) .read hp
    (instrOf_opcByte_of_valid hc .read) (avail_read _) (.inl hid) (by rw [hparams]; exact hfit)
  rw [hparams] at hstart
  refine ⟨_, run_issue hevents (by omega) (by omega) hstart, rfl, ?_, rfl, rfl⟩
  exact decide_eq_true ⟨by show id ≠ 254; bv_omega, by decide, by decide⟩

/-! ## What follows the START (`44_instructions.md` R275) -/

section Finish

variable {α : Type} {s : State}

theorem statusWord_done (s : State) : (statusWord s).getLsbD 1 = s.done := by
  rw [statusWord, busy]
  generalize s.done = d, s.busyReject = r, s.corruptSeen = c, s.idmissSeen = m, s.phase = p
  revert d r c m
  cases p <;> decide

theorem perform_hostRead (a n : Nat) (s : State) : perform (.hostRead a n) s = .next (hostRead a n s) := rfl

theorem hostRead_status_rdata (s : State) : (hostRead 0x04 4 s).rdata = statusWord s :=
  readValue_of_regAt (a := 0x04) (r := .status) (by decide) rfl rfl s

theorem hostRead_result_rdata (s : State) : (hostRead 0x20 4 s).rdata = (resultCode s.result).setWidth 32 :=
  readValue_of_regAt (a := 0x20) (r := .result) (by decide) rfl rfl s

theorem hostRead_resHdr_rdata (s : State) : (hostRead 0x24 4 s).rdata = readReg s .resHdr :=
  readValue_of_regAt (a := 0x24) (r := .resHdr) (by decide) rfl rfl s

theorem codeField_setWidth (r : CommResult) : codeField ((resultCode r).setWidth 32) = resultCode r := by
  cases r <;> rfl

theorem resultCode_eq_success_iff {r : CommResult} : resultCode r = resultCode .success ↔ r = .success := by
  cases r <;> decide

theorem errField_resHdr (s : State) : errField (readReg s .resHdr) = s.resErr := append_extract_middle _ _ _

theorem plenField_resHdr (s : State) : plenField (readReg s .resHdr) = s.resPlen.toNat :=
  congrArg BitVec.toNat (append_extract_high _ _ _)

/-- `t` is `s` but for what host reads touch: the value returned and the free values used up. -/
def SameButReads (s t : State) : Prop := t = { s with rdata := t.rdata, free := t.free }

theorem perform_ack (s : State) : perform ack s = .next { s with done := false } := by
  have hack : perform ack s = .next (acknowledge 2 s) := rfl
  rw [hack, acknowledge, and_not_eq_ite, and_not_eq_ite]
  rfl

/-- While `DONE` is 1 four turns read `RESULT` and `RES_HDR` and acknowledge. -/
theorem play_awaitAcknowledged (hd : s.done = true) (k : BitVec 4 → Word → Script α) :
    ∃ t, SameButReads { s with done := false } t ∧ ∀ ts,
      play (List.replicate 4 .host ++ ts) (awaitAcknowledged k) s =
        play ts (k (resultCode s.result) (readReg s .resHdr)) t := by
  have hbit : (hostRead 0x04 4 s).rdata.getLsbD 1 = true := by rw [hostRead_status_rdata, statusWord_done, hd]
  refine ⟨{ hostRead 0x24 4 (hostRead 0x20 4 (hostRead 0x04 4 s)) with done := false }, rfl, fun ts => ?_⟩
  show play (.host :: .host :: .host :: .host :: ts) (awaitAcknowledged k) s = _
  rw [awaitAcknowledged, awaitResult, awaitCode, play_host_wait, hbit, if_pos rfl, rd, play_host_access (perform_hostRead ..),
    hostRead_result_rdata, codeField_setWidth, rd, play_host_access (perform_hostRead ..), hostRead_resHdr_rdata,
    play_host_access (perform_ack _)]
  rfl

/-- One read each gives the bytes written last. -/
theorem play_readRxp {bs : List Byte} {i : Nat} (hread : ∀ j (h : j < bs.length), s.mem.read? (0x20000 + (i + j)) = some bs[j])
    (hcap : i + bs.length ≤ rxpCap s.cfg) (hwin : i + bs.length ≤ 0x10000) (k : List Byte → Script α) :
    ∃ t, SameButReads s t ∧ ∀ ts,
      play (List.replicate bs.length .host ++ ts) (readRxp i bs.length k) s = play ts (k bs) t := by
  induction bs generalizing s i k with
  | nil => exact ⟨s, rfl, fun _ => rfl⟩
  | cons b bs ih =>
    rw [List.length_cons] at hcap hwin
    have hbytes : bufferBytes s 0x20000 (rxpCap s.cfg) i 1 = [b] :=
      bufferBytes_eq (bs := [b]) (by simp; omega) fun j hj => by
        obtain rfl : j = 0 := by simpa using hj
        exact hread 0 (Nat.succ_pos _)
    have hbyte : (hostRead (0x20000 + i) 1 s).rdata.setWidth 8 = b := by
      refine BitVec.eq_of_toNat_eq ?_
      rw [hostRead_rdata, readValue_rxp (.inl rfl) (by omega), hbytes, BitVec.toNat_setWidth, toNat_ofNat_leNat (by simp)]
      exact Nat.mod_eq_of_lt b.isLt
    have hrest (j : Nat) (hj : j < bs.length) : s.mem.read? (0x20000 + (i + 1 + j)) = some bs[j] := by
      have h : s.mem.read? (0x20000 + (i + (j + 1))) = some bs[j] := hread (j + 1) (Nat.succ_lt_succ hj)
      rwa [Nat.add_comm j, ← Nat.add_assoc i] at h
    obtain ⟨t, ht, hplay⟩ := ih (s := hostRead (0x20000 + i) 1 s) (i := i + 1) hrest (by rw [hostRead_cfg]; omega)
      (by omega) fun bs => k (b :: bs)
    refine ⟨t, ?_, fun ts => ?_⟩
    · rw [SameButReads, ht]
      rfl
    · rw [List.length_cons, List.replicate_succ, List.cons_append, readRxp, play_host_access (perform_hostRead ..)]
      simp only [rxpBase, hbyte]
      exact hplay ts

/-- What `read` does once it has its codes: the value, the bytes, or neither (`44_instructions.md` R278). -/
def readPayload (n : Nat) (c : BitVec 4) (h : Word) : Script WrapperResult :=
  if c = resultCode .success ∧ n ≤ plenField h then
    if n = 1 ∨ n = 2 ∨ n = 4 then
      .access (.hostRead rxpBase n) fun v => .ret ⟨c, some (errField h), .number v.toNat⟩
    else readRxp 0 n fun bs => .ret ⟨c, some (errField h), .bytes bs⟩
  else .ret ⟨c, some (errField h), .nothing⟩

theorem readFinish_eq (n : Nat) : readFinish n = awaitAcknowledged (readPayload n) := rfl

variable {n : Nat}

/-- No success, or too short a response. -/
theorem readPayload_nothing (hno : s.result ≠ .success ∨ s.resPlen.toNat < n) :
    readPayload n (resultCode s.result) (readReg s .resHdr) = .ret ⟨resultCode s.result, some s.resErr, .nothing⟩ := by
  rw [readPayload, errField_resHdr, plenField_resHdr, if_neg]
  rintro ⟨hs, hlen⟩
  exact hno.elim (· (resultCode_eq_success_iff.mp hs)) (Nat.not_lt.mpr hlen)

theorem readPayload_number (hs : s.result = .success) (hlen : n ≤ s.resPlen.toNat) (hn : n = 1 ∨ n = 2 ∨ n = 4) :
    readPayload n (resultCode s.result) (readReg s .resHdr) =
      .access (.hostRead rxpBase n) fun v => .ret ⟨0, some s.resErr, .number v.toNat⟩ := by
  rw [readPayload, errField_resHdr, plenField_resHdr, hs, if_pos ⟨rfl, hlen⟩, if_pos hn]
  rfl

theorem readPayload_bytes (hs : s.result = .success) (hlen : n ≤ s.resPlen.toNat) (hn : ¬ (n = 1 ∨ n = 2 ∨ n = 4)) :
    readPayload n (resultCode s.result) (readReg s .resHdr) =
      readRxp 0 n fun bs => .ret ⟨0, some s.resErr, .bytes bs⟩ := by
  rw [readPayload, errField_resHdr, plenField_resHdr, hs, if_pos ⟨rfl, hlen⟩, if_neg hn]
  rfl

/-- Four turns bring `read` to its payload. -/
theorem play_readFinish (hd : s.done = true) (n : Nat) :
    ∃ t, SameButReads { s with done := false } t ∧ ∀ ts,
      play (List.replicate 4 .host ++ ts) (readFinish n) s =
        play ts (readPayload n (resultCode s.result) (readReg s .resHdr)) t :=
  readFinish_eq n ▸ play_awaitAcknowledged hd (readPayload n)

theorem SameButReads.trans {u t : State} (hsu : SameButReads s u) (hut : SameButReads u t) : SameButReads s t := by
  rw [SameButReads, hut, hsu]

theorem SameButReads.mem {t : State} (h : SameButReads s t) : t.mem = s.mem := by rw [h]

theorem SameButReads.cfg {t : State} (h : SameButReads s t) : t.cfg = s.cfg := by rw [h]

/-- A read of 1, 2 or 4 written bytes of `RXP` gives their little-endian number. -/
theorem readValue_rxp_written {bs : List Byte} (hn : bs.length = 1 ∨ bs.length = 2 ∨ bs.length = 4)
    (hcap : bs.length ≤ rxpCap s.cfg) (hread : ∀ i (h : i < bs.length), s.mem.read? (0x20000 + (0 + i)) = some bs[i]) :
    (readValue s 0x20000 bs.length).toNat = leNat bs := by
  have hbytes := bufferBytes_eq (s := s) (base := 0x20000) (cap := rxpCap s.cfg) (by omega) hread
  have hval := readValue_rxp (i := 0) hn (by omega) s
  rw [hbytes] at hval
  exact (congrArg BitVec.toNat hval).trans (toNat_ofNat_leNat (by omega))

end Finish

/-- Settles O60: the accesses up to START store the request that `START TXRX` transmits; what follows waits, reads two registers,
acknowledges, and reads the data where the response holds them. -/
theorem readWrapperExchangesTheRequest : Obligations.ReadWrapperExchangesTheRequest := by
  refine ⟨fun s id address n es hc hp hid hcap hexp hevents => ⟨fun hproto hfit => ?_, fun hproto hfit => ?_⟩,
    fun c proto id address n s ts hn hts => ?_, fun c proto id address n es hexp => ?_, fun s n hd => ?_,
    fun s n hd hno => ?_, fun s n bs hd hs hlen hcap hwin hbs hread => ⟨fun hn => ?_, fun hn => ?_⟩⟩
  · have hrun := run_readExpansion hc hp hid hcap hexp hevents (by rw [hproto]; exact hfit)
    rwa [hproto] at hrun
  · have hstuff := stuff_length_le (operand16 .p2 address ++ operand16 .p2 n)
    have hrun := run_readExpansion hc hp hid hcap hexp hevents (by
      rw [hproto]
      have hlen : (operand16 .p2 address ++ operand16 .p2 n).length = 4 := rfl
      rw [hlen] at hstuff
      simp only [frameLength, txMax]
      omega)
    rwa [hproto] at hrun
  · subst hn
    exact play_hosts_ret _ s ts hts
  · rw [readScript, hexp, runExpansion]
  · have hbit : (hostRead 0x04 4 s).rdata.getLsbD 1 = false := by rw [hostRead_status_rdata, statusWord_done, hd]
    rw [readFinish_eq, awaitAcknowledged, awaitResult, awaitCode, play_host_wait, hbit]
    rfl
  · obtain ⟨t, ht, hplay⟩ := play_readFinish hd n
    exact ⟨t, (hplay []).trans (by rw [readPayload_nothing hno]; rfl), ht⟩
  · obtain ⟨t, ht, hplay⟩ := play_readFinish hd n
    subst hbs
    have hval : (readValue t 0x20000 bs.length).toNat = leNat bs := by
      refine readValue_rxp_written hn (by rw [ht.cfg]; exact hcap) fun i hi => ?_
      rw [ht.mem, Nat.zero_add, hread i hi, List.getElem?_eq_getElem hi]
    refine ⟨hostRead rxpBase bs.length t, (hplay [.host]).trans ?_, ht.trans rfl⟩
    rw [readPayload_number hs hlen hn, play_host_access (perform_hostRead ..), hostRead_rdata, rxpBase, hval]
    rfl
  · obtain ⟨t, ht, hplay⟩ := play_readFinish hd n
    subst hbs
    obtain ⟨u, hu, hreadRxp⟩ := play_readRxp (s := t) (bs := bs) (i := 0) (fun i hi => by
      rw [ht.mem, Nat.zero_add, hread i hi, List.getElem?_eq_getElem hi]) (by rw [ht.cfg, Nat.zero_add]; exact hcap) (by omega)
      fun bs => .ret (⟨0, some s.resErr, .bytes bs⟩ : WrapperResult)
    have hdata := hreadRxp []
    rw [List.append_nil] at hdata
    refine ⟨u, ?_, ht.trans hu⟩
    rw [List.replicate_add, hplay, readPayload_bytes hs hlen hn, hdata]
    rfl

end Sys2Proof.Machine
